-- ==== Sys2Proof/Word.lean ====
section
/-! DEFINITION. The plain data types of the Rejpin PD8 model: bytes, lanes, tickets, block numbers and part time. -/

namespace Sys2Proof

/-- One byte of a frame, a payload or a reply. -/
abbrev Byte := BitVec 8

/-- A lane number, 0..7 (00_scope, Conventions). -/
abbrev LaneId := Fin 8

/-- A ticket. Issued tickets lie in 1..65535 (R25); 0 never names a record. -/
abbrev Ticket := Nat

/-- The number of a block of the pool. It is internal and shown nowhere (R1). -/
abbrev BlockNo := Nat

/-- Part time: a 32-bit count of 10 µs ticks that wraps (R98). -/
abbrev PartTime := BitVec 32

end Sys2Proof
end

