-- ==== Sys2Proof/Syntax.lean ====
section
/-! DEFINITION. The commands of the Rejpin PD8: one constructor per row of spec/opcode_table.json. -/

namespace Sys2Proof

/-- What HRX did between the previous advance of part time and this one, as far as the two watches of
R101 can tell (R163, R172). DESIGN CHOICE, safe: log 9. -/
structure HrxSample where
  /-- HRX is low at this advance. -/
  low : Bool
  /-- HRX was high at some moment since the previous advance, or since the last reset where it came later. -/
  wasHigh : Bool
  /-- A character was arriving at some moment since the previous advance. -/
  charSeen : Bool
  /-- A character is arriving at this advance. -/
  charNow : Bool
deriving DecidableEq, Repr

/-- An idle line: high throughout, no character. -/
def HrxSample.idle : HrxSample := ⟨false, true, false, false⟩

/-- A line held low throughout. -/
def HrxSample.heldLow : HrxSample := ⟨true, false, false, false⟩

/-- What DRXn did between the previous advance of part time and a later moment, at most one tick on, as far as the
gap measurement of R116 can tell, in periods of CLKIN (R98). DESIGN CHOICE, safe: log 9. -/
structure DrxSample where
  /-- Periods until the start bit of the first character since that advance, or until the moment itself when none
  has come; 0 when a character was arriving at the advance. -/
  lead : Nat
  /-- Periods from the stop bit of the last character until the moment, 0 while one is arriving; none when no
  character has come. -/
  tail : Option Nat
deriving DecidableEq, Repr

/-- A line without a character for one tick. -/
def DrxSample.idle : DrxSample := ⟨240, none⟩

/-- The levels of the pins that a reset samples: HSPD1 HSPD0 and HRX (R160, R180, R181). -/
structure PinLevels where
  straps : BitVec 2
  hrxLow : Bool
deriving DecidableEq, Repr

/-- What cuts a drop frame at a gap (R116). -/
structure GapCut where
  /-- The characters of the frame taken since its last step. -/
  taken : List Byte
  /-- The periods of CLKIN since the last advance, all of them without a character. -/
  since : Nat
deriving DecidableEq, Repr

/-- The input pins as an advance of part time finds them: the straps, HRX and the eight DRXn (log 9). -/
structure TickSample where
  straps : BitVec 2
  hrx : HrxSample
  drx : Vector DrxSample 8
deriving DecidableEq, Repr

/-- Every input line idle and both straps low. -/
def TickSample.idle : TickSample := ⟨0, .idle, Vector.replicate 8 .idle⟩

/-- The commands. A request row carries no operand: its arguments are the bytes of the oldest intake
entry, which the Request Processor takes (R165, R167, R188; log 6). -/
inductive Instr where
  /-- IDENTIFY (R182). -/
  | identify
  /-- PART_STATUS (R183). -/
  | partStatus
  /-- PART_CONFIG (R184). -/
  | partConfig
  /-- RESTART (R178). -/
  | restart
  /-- LANE_CONFIG (R66, R67). -/
  | laneConfig
  /-- LANE_MODE with target HOLD (R69, R71). -/
  | laneModeHold
  /-- LANE_MODE with target PASS (R69, R70). -/
  | laneModePass
  /-- LANE_MODE with target HALT (R69, R72). -/
  | laneModeHalt
  /-- LANE_STATUS (R96). -/
  | laneStatus
  /-- LANE_FLUSH (R55, R56). -/
  | laneFlush
  /-- LANE_RESEQ with action FORCE (R137). -/
  | laneReseqForce
  /-- LANE_RESEQ with action MARK (R137). -/
  | laneReseqMark
  /-- DROP_RESET (R133, R134). -/
  | dropReset
  /-- SUBMIT (R33 to R36). -/
  | submit
  /-- CANCEL (R37 to R39). -/
  | cancel
  /-- QUERY (R40). -/
  | query
  /-- REPLY_READ (R41). -/
  | replyRead
  /-- COLLECT (R42). -/
  | collect
  /-- RETIRE (R43). -/
  | retire
  /-- REPORT_TAKE (R143). -/
  | reportTake
  /-- A request whose first body byte is no request code (R168). -/
  | unknownRequest
  /-- CONTROL_HEADER_TAKEN: the two length bytes of a control frame (R162). -/
  | controlHeaderTaken (lenHi lenLo : Byte)
  /-- CONTROL_FRAME_END: the characters after the length, the two check characters last (R162). -/
  | controlFrameEnd (chars : List Byte)
  /-- CONTROL_FRAME_GAP (R163). -/
  | controlFrameGap
  /-- LINK_BREAK (R172). -/
  | linkBreak
  /-- LINK_RESET (R174). -/
  | linkReset
  /-- HOST_QUIET_EXPIRY (R176). -/
  | hostQuietExpiry
  /-- RESPONSE_START (R170). -/
  | responseStart
  /-- NOTICE_START (R154). -/
  | noticeStart
  /-- CONTROL_FRAME_SENT (R171). -/
  | controlFrameSent
  /-- RESTART_RESET, with the pins it samples (R179, R180, R160). -/
  | restartReset (pins : PinLevels)
  /-- PIN_RESET: RESET_N goes low and stays low, or it goes high with the levels of the pins sampled then (R181, R160). -/
  | pinReset (low : Bool) (pins : PinLevels)
  /-- TICK, with the input pins as the advance finds them (R98, R99). -/
  | tick (pins : TickSample)
  /-- SLOT_CREDIT_EARNED (R104). -/
  | slotCreditEarned (lane : LaneId)
  /-- RELEASE_TIME_REACHED (R54). -/
  | releaseTimeReached (lane : LaneId)
  /-- TRANSMISSION_START (R77, R105, R115). -/
  | transmissionStart (lane : LaneId)
  /-- DROP_FRAME_SENT (R78). -/
  | dropFrameSent (lane : LaneId)
  /-- DROP_HEADER_TAKEN: the control byte and the two length bytes (R117, R123). -/
  | dropHeaderTaken (lane : LaneId) (control lenHi lenLo : Byte)
  /-- DROP_GAP_CUT (R116). -/
  | dropGapCut (lane : LaneId) (cut : GapCut)
  /-- DROP_FRAME_END: the characters after the header, the two check characters last (R118). -/
  | dropFrameEnd (lane : LaneId) (chars : List Byte)
  /-- ACK_TIMEOUT (R85). -/
  | ackTimeout (lane : LaneId)
  /-- BACKOFF_EXPIRY (R82). -/
  | backoffExpiry (lane : LaneId)
  /-- DROP_RESET_BREAK_END (R134). -/
  | dropResetBreakEnd (lane : LaneId)
  /-- DROP_RESET_END (R135). -/
  | dropResetEnd (lane : LaneId)
  /-- DROP_START_BYTE: the character 6Ch (R116). -/
  | dropStartByte (lane : LaneId)
  /-- CONTROL_START_BYTE: the character B7h (R162). -/
  | controlStartByte
  /-- DROP_FRAMING_FAULT: the characters of the frame taken since its last step (R116). -/
  | dropFramingFault (lane : LaneId) (taken : List Byte)
deriving DecidableEq, Repr

end Sys2Proof
end

