-- ==== Sys2Proof/Config.lean ====
section
/-! DEFINITION. What the part fixes once and for all: its capacities (R182), codes (R182), clock (R98) and line rates (R112, R160, R197). -/

namespace Sys2Proof.Config

/-- Blocks of the pool (R1, R182). -/
def poolBlocks : Nat := 512

/-- Bytes of one block (R2, R182). -/
def blockSize : Nat := 32

/-- Records of the Message Table (R21, R182). -/
def maxRecords : Nat := 128

/-- Longest payload and longest reply in bytes (R22, R182). -/
def maxPayload : Nat := 512

/-- Longest report in bytes (R139, R182). -/
def maxReport : Nat := 64

/-- Reports one holding keeps (R139, R182). -/
def reportsHeld : Nat := 2

/-- Entries of the intake queue and of the response queue (R165, R169, R182). -/
def queueEntries : Nat := 4

/-- Entries the notice list can hold (R150, R182). -/
def noticeEntries : Nat := 68

/-- Largest count of a REPLY_READ (R41, R182). -/
def maxReadCount : Nat := 256

/-- Largest maximum of a COLLECT (R42, R182). -/
def maxCollect : Nat := 64

/-- Vendor code (R182). -/
def vendorCode : Nat := 0x57

/-- Part code (R182). -/
def partCode : Nat := 0xD8

/-- Revision (R182). -/
def revision : Nat := 1

/-- Ticks of part time in one millisecond (R101). -/
def ticksPerMs : Nat := 100

/-- Ticks of the control frame gap watch, 5 ms (R101, R163). -/
def gapWatchTicks : Nat := 500

/-- Ticks of the link break watch, 1 ms (R101, R172). -/
def breakWatchTicks : Nat := 100

/-- Ticks of the drop reset break, 2 ms (R101, R134). -/
def dropBreakTicks : Nat := 200

/-- Ticks of the drop reset recovery, 20 ms (R101, R134). -/
def dropRecoveryTicks : Nat := 2000

/-- CLKIN in Hz (R98). Bit times and part time are derived from it (R98, R112, R160). -/
def clockHz : Nat := 24000000

/-- Periods of CLKIN in one tick of part time (R98). -/
def tickPeriods : Nat := 240

/-- Bits of one character: a start bit, eight data bits and a stop bit (R112, R160). -/
def charBits : Nat := 10

/-- The gap limit of a drop frame in character times (R116). -/
def gapChars : Nat := 4

/-- Drop line rate in bit/s for each line_rate code (R112, R197). -/
def lineRate : List Nat := [9600, 19200, 57600, 115200, 250000, 500000, 1000000, 2000000]

/-- Control link rate in bit/s for each link speed code (R160, R197). -/
def linkRate : List Nat := [115200, 460800, 1000000, 3000000]

end Sys2Proof.Config
end

