-- ==== Sys2Proof/Machine/Format.lean ====
section
/-! DEFINITION. Bytes and frames: multi-byte fields, the check of R185, the outline of a control frame
(R186) and of a drop frame (R196), their characters on a line (R112, R160), the gap limit (R116), and saturating
counts. -/

namespace Sys2Proof.Machine

/-- A counter that stops at `top` (00_scope, Counts). -/
def satInc (top n : Nat) : Nat := if n < top then n + 1 else top

/-- `n` as `k` bytes, most significant first (00_scope, Byte order). -/
def bytesOf : Nat → Nat → List Byte
  | 0, _ => []
  | k + 1, n => BitVec.ofNat 8 (n / 256 ^ k) :: bytesOf k n

/-- The number that bytes spell, most significant first. -/
def natOf (bytes : List Byte) : Nat := bytes.foldl (fun acc b => acc * 256 + b.toNat) 0

/-- A truth value as bit `k` of a flag byte. -/
def flagBit (k : Nat) (b : Bool) : Byte := if b then (1#8 <<< k) else 0

/-- One data bit into the check register (R185). -/
def crcBit (reg : BitVec 16) (bit : Bool) : BitVec 16 :=
  if reg.msb != bit then (reg <<< 1) ^^^ 0x1021#16 else reg <<< 1

/-- One byte into the check register, bit 7 first (R185). -/
def crcByte (reg : BitVec 16) (b : Byte) : BitVec 16 :=
  [7, 6, 5, 4, 3, 2, 1, 0].foldl (fun r i => crcBit r (b.getLsbD i)) reg

/-- Further covered bytes into the check register (R185). -/
def crcMore (reg : BitVec 16) (bytes : List Byte) : BitVec 16 := bytes.foldl crcByte reg

/-- The check over the covered bytes (R185). -/
def crc16 (bytes : List Byte) : BitVec 16 := crcMore 0xFFFF#16 bytes

/-- The check as its two characters, high byte first (R185). -/
def checkBytes (check : BitVec 16) : List Byte := bytesOf 2 check.toNat

/-- Start byte of a control frame (R186). -/
def controlStart : Byte := 0xB7#8

/-- Start byte of a drop frame (R196). -/
def dropStart : Byte := 0x6C#8

/-- Control frame kind codes (R197). -/
def requestKind : Byte := 0x51#8

/-- Control frame kind code of a response (R197). -/
def responseKind : Byte := 0x52#8

/-- Control frame kind code of a notice (R197). -/
def noticeKind : Byte := 0x53#8

/-- A control frame: start, length of kind, tag and body, kind, tag, body, check (R186). -/
def controlFrame (kind tag : Byte) (body : List Byte) : List Byte :=
  let covered := bytesOf 2 (body.length + 2) ++ kind :: tag :: body
  controlStart :: covered ++ checkBytes (crc16 covered)

/-- A drop frame: start, control byte, payload length, payload, check (R196). -/
def dropFrame (control : Byte) (payload : List Byte) : List Byte :=
  let covered := control :: bytesOf 2 payload.length ++ payload
  dropStart :: covered ++ checkBytes (crc16 covered)

/-- The levels of one character on a line, bit time by bit time, high as true: start bit low, data bits least
significant first, stop bit high (R112, R160). -/
def charLevels (b : Byte) : List Bool := false :: (List.range 8).map b.getLsbD ++ [true]

/-- The levels of a frame, its characters back to back (R112, R160). -/
def frameLevels (frame : List Byte) : List Bool := frame.flatMap charLevels

/-- The bit time that runs `periods` periods of CLKIN after the first start bit began, at `rate` bit/s (R112, R160). -/
def bitTime (rate periods : Nat) : Nat := periods * rate / Config.clockHz

/-- The level of a line that sends a frame, `periods` periods of CLKIN after its first start bit began; after the last
stop bit the line is idle, high (R112, R160). -/
def frameHigh (rate : Nat) (frame : List Byte) (periods : Nat) : Bool :=
  (frameLevels frame).getD (bitTime rate periods) true

/-- A pause of `gap` periods of CLKIN exceeds the gap limit of 4 character times at `rate` bit/s (R112, R116). -/
def gapExceeded (rate gap : Nat) : Bool := Config.gapChars * Config.charBits * Config.clockHz < gap * rate

/-- Blocks that hold `n` bytes (R2): n divided by 32, rounded up. -/
def blockCount (n : Nat) : Nat := (n + 31) / 32

end Sys2Proof.Machine
end

