-- ==== Sys2Proof/Machine/State.lean ====
section
/-! DEFINITION. The state of the Rejpin PD8 as plain data, block by block as 00_scope section 2 lists them,
and the state right after pin reset (R181). -/

namespace Sys2Proof.Machine

/-- The part has no condition that stops it: a refused request is answered with a status (R168) and a
damaged frame is counted (R118, R164). Nothing raises a fault. -/
inductive Fault where
deriving DecidableEq, Repr

/-- Why a command has no meaning. -/
inductive Refusal where
  /-- Raised by an arm of `exec` for a row that has no meaning yet; no arm does. Safe. -/
  | notModelled (mnemonic : String)
deriving DecidableEq, Repr

/-! ### Block Pool (chapter 1) -/

/-- An entry of the space waiting list (R8). -/
structure WaitEntry where
  lane : LaneId
  need : Nat
deriving DecidableEq, Repr

/-- The Block Pool: the free set and the space waiting list, oldest first (R1, R8). The chains stand in
the records. The order inside `free` shows nowhere (log 7). -/
structure BlockPool where
  free : List BlockNo
  waiting : List WaitEntry
deriving DecidableEq, Repr

/-! ### Message Table (chapter 2) -/

/-- Record states (R22). -/
inductive RecordState where
  | queued | active | done | failed | cancelled
deriving DecidableEq, Repr

/-- Causes of FAILED and CANCELLED records (R22, R30). -/
inductive Cause where
  | noAnswer | busyLimit | rejected | oversizeReply | byHost | flushed
deriving DecidableEq, Repr

/-- A message record (R22) with its two chains and the bytes they hold (R1, R2). -/
structure Record where
  ticket : Ticket
  lane : LaneId
  state : RecordState
  /-- class URGENT; otherwise NORMAL -/
  urgent : Bool
  batchEnd : Bool
  replyWanted : Bool
  /-- absent when no reply is wanted -/
  replyLimit : Option Nat
  /-- absent when SUBMIT gave none -/
  releaseTime : Option PartTime
  payloadLength : Nat
  sends : Nat
  misses : Nat
  busies : Nat
  uncertain : Bool
  cancelMark : Bool
  cause : Option Cause
  rejectCode : Option Byte
  replyLength : Nat
  completionTime : Option PartTime
  payloadChain : List BlockNo
  payload : List Byte
  replyChain : List BlockNo
  reply : List Byte
deriving DecidableEq, Repr

/-- The Message Table: live records, ticket counter, completion list oldest first (R21, R25, R31). -/
structure MessageTable where
  records : List Record
  counter : Ticket
  completion : List Ticket
deriving DecidableEq, Repr

/-! ### Lanes (chapters 3 to 7) -/

/-- failure_policy (R65). -/
inductive FailurePolicy where
  | halt | skip
deriving DecidableEq, Repr

/-- The lane configuration record of twelve fields (R65). -/
structure LaneConfig where
  lineRate : Nat
  pacingNum : Nat
  pacingDen : Nat
  burst : Nat
  ackTimeout : Nat
  busyBackoff : Nat
  retryLimit : Nat
  busyLimit : Nat
  failurePolicy : FailurePolicy
  defaultReplyLimit : Nat
  cap : Nat
  quota : Nat
deriving DecidableEq, Repr

/-- Lane modes (R68). -/
inductive Mode where
  | hold | pass | halt
deriving DecidableEq, Repr

/-- Lane phases (R74). -/
inductive Phase where
  | idle | waitTime | waitSpace | waitSlot | sending | awaitAnswer | backoff | resetting
deriving DecidableEq, Repr

/-- The two kinds of frame a lane sends (R115). -/
inductive FrameKind where
  | data | nreq
deriving DecidableEq, Repr

/-- The Slot Generator (R103). `due` is the model's own: a credit earned at the last advance that has not
yet joined the count (R104, log 17). -/
structure SlotGenerator where
  accumulator : Nat
  credits : Nat
  due : Bool
deriving DecidableEq, Repr

/-- The class of a frame in reception, fixed when its header is taken (R123). -/
inductive AnswerClass where
  | expected | unexpected | report
deriving DecidableEq, Repr

/-- A drop frame in reception whose header was good (R113, R117). -/
structure RxFrame where
  control : Byte
  length : Nat
  /-- characters of the frame taken so far, the start byte included -/
  taken : Nat
  /-- the running check over the covered bytes taken so far (R185) -/
  check : BitVec 16
  answer : AnswerClass
  /-- the line rate changed during the reception (R119) -/
  rateChanged : Bool
  /-- periods of CLKIN without a character since the last stop bit, as of the last advance (R113, R116) -/
  gap : Nat
deriving DecidableEq, Repr

/-- The Drop Port's receiver (R113). In `header` the start byte has been taken and the header has not; `gap` is as in
`RxFrame`. -/
inductive Receiver where
  | hunting
  | header (rateChanged : Bool) (gap : Nat)
  | frame (f : RxFrame)
  | discarding
deriving DecidableEq, Repr

/-- The Drop Port's transmitter (R113), with the bytes of the frame it is sending. -/
inductive DropTx where
  | idle
  | sending (frame : List Byte)
  | breaking
deriving DecidableEq, Repr

/-- The Drop Port (R113) with the two timers of a drop reset (R101, R134). A timer holds its remaining
ticks; 0 is an expiry that has come and is not yet taken. -/
structure DropPort where
  tx : DropTx
  rx : Receiver
  breakTimer : Option Nat
  recoveryTimer : Option Nat
deriving DecidableEq, Repr

/-- A node report (R139). -/
structure Report where
  bytes : List Byte
  arrival : PartTime
deriving DecidableEq, Repr

/-- The seven counters of a lane (R95). `delivered` wraps, the others saturate at 65535. -/
structure LaneCounters where
  delivered : BitVec 32
  failed : Nat
  missesTotal : Nat
  busiesTotal : Nat
  damagedFrames : Nat
  strayFrames : Nat
  reportOverruns : Nat
deriving DecidableEq, Repr

/-- One lane: Lane Queue, Lane Controller, Slot Generator, Drop Port and Report Holding. -/
structure Lane where
  config : LaneConfig
  queue : List Ticket
  mode : Mode
  phase : Phase
  /-- the active ticket; none is reported as 0 -/
  active : Option Ticket
  seq : Bool
  resync : Bool
  quotaLeft : Nat
  ackTimer : Option Nat
  backoffTimer : Option Nat
  /-- the frame ready in WAIT_SLOT (R77) -/
  ready : FrameKind
  /-- BUSY answers of this activation, counted without saturation (R81) -/
  busyCount : Nat
  slots : SlotGenerator
  counters : LaneCounters
  port : DropPort
  holding : List Report
deriving DecidableEq, Repr

/-! ### Notice Unit (chapter 8) -/

/-- Notice kinds (R148). -/
inductive NoticeKind where
  | done | failed | halted | held | idle | spaceWait | report | overrun
  | started | linkReset | intakeDrop | linkDamage
deriving DecidableEq, Repr

/-- Reasons of HELD (R148). -/
inductive HoldReason where
  | quota | batchEnd | quiet
deriving DecidableEq, Repr

/-- Reasons of LINK_DAMAGE (R164). -/
inductive DamageReason where
  | badCrc | badLength | wrongKind | gap
deriving DecidableEq, Repr

/-- Reset causes of STARTED (R158). -/
inductive ResetCause where
  | resetPin | restart
deriving DecidableEq, Repr

/-- The detail of an event, per kind (R148, R195). -/
inductive Detail where
  | none
  | cause (c : Cause)
  | held (r : HoldReason)
  | need (blocks : Nat)
  | tag (t : Byte)
  | damage (r : DamageReason)
  | reset (c : ResetCause)
deriving DecidableEq, Repr

/-- A notice entry (R149). `lane` is none for a part-wide kind, which travels as FFh. -/
structure NoticeEntry where
  kind : NoticeKind
  lane : Option LaneId
  count : Nat
  ticket : Ticket
  detail : Detail
  rejectCode : Option Byte
  time : PartTime
deriving DecidableEq, Repr

/-- The Notice Unit: the notice list, oldest first, the mask with one bit per kind (1 enabled), and the
notice number (R150, R152, R154). -/
structure NoticeUnit where
  entries : List NoticeEntry
  mask : BitVec 16
  number : Byte
deriving DecidableEq, Repr

/-! ### Control Link Interface (chapter 9) -/

/-- An intake entry: the tag and the body of a good request (R165). -/
structure Request where
  tag : Byte
  body : List Byte
deriving DecidableEq, Repr

/-- A response: the tag of the request and the response body (R169, R191). -/
structure Response where
  tag : Byte
  body : List Byte
deriving DecidableEq, Repr

/-- The receive framer (R162, R172). In `header` the start byte has been taken and the length has not;
`stopped` lasts from a detected break until HRX returns high. -/
inductive Framer where
  | hunting
  | header
  /-- the two length bytes, the characters taken so far and the running check over them (R185) -/
  | frame (lenHi lenLo : Byte) (taken : Nat) (check : BitVec 16)
  | stopped
deriving DecidableEq, Repr

/-- The transmitter (R171), with the bytes of the frame it is sending. -/
inductive LinkTx where
  | free
  | sendingResponse (frame : List Byte)
  | sendingNotice (frame : List Byte)
  | held
deriving DecidableEq, Repr

/-- The host-quiet timer (R175); `running 0` is an expiry that has come and is not yet taken. -/
inductive QuietTimer where
  | off
  | running (remaining : Nat)
  | stopped
deriving DecidableEq, Repr

/-- The Control Link Interface (R160 to R180). -/
structure ControlLink where
  framer : Framer
  gapWatch : Nat
  breakWatch : Nat
  /-- a break has been detected and HRX has not returned high (R172, R174) -/
  breakDetected : Bool
  /-- the straps HSPD1 HSPD0, as last sampled -/
  straps : BitVec 2
  /-- HRX is low, as last sampled -/
  hrxLow : Bool
  /-- HRX has stayed low since the last reset took effect (R170, R180) -/
  lowSinceReset : Bool
  intake : List Request
  responses : List Response
  tx : LinkTx
  /-- link speed code (R160) -/
  speed : BitVec 2
  quietLimit : Nat
  quietTimer : QuietTimer
  damageCount : Nat
  dropCount : Nat
deriving DecidableEq, Repr

/-! ### The whole part -/

/-- The state of the part and, last, the queue of commands that wait (the model's own, log 1). -/
structure State where
  /-- part time (R98) -/
  time : PartTime
  pool : BlockPool
  table : MessageTable
  lanes : Vector Lane 8
  notices : NoticeUnit
  link : ControlLink
  /-- the Request Processor's flag (R167, R178) -/
  restartPending : Bool
  /-- RESET_N is low (R157, R181) -/
  resetLow : Bool
  pending : List Instr
deriving DecidableEq, Repr

/-! ### Reset -/

/-- The defaults of R65. -/
def LaneConfig.default : LaneConfig where
  lineRate := 3
  pacingNum := 0
  pacingDen := 1
  burst := 1
  ackTimeout := 20
  busyBackoff := 5
  retryLimit := 3
  busyLimit := 50
  failurePolicy := .halt
  defaultReplyLimit := 64
  cap := 64
  quota := 0

/-- All counters at 0 (R97). -/
def LaneCounters.zero : LaneCounters := ⟨0, 0, 0, 0, 0, 0, 0⟩

/-- A lane after either reset (R64, R97, R103, R110, R113, R146). `ready` and `busyCount` are written
before they are read (log 23). -/
def Lane.reset : Lane where
  config := .default
  queue := []
  mode := .hold
  phase := .idle
  active := none
  seq := false
  resync := true
  quotaLeft := 0
  ackTimer := none
  backoffTimer := none
  ready := .data
  busyCount := 0
  slots := ⟨0, 0, false⟩
  counters := .zero
  port := ⟨.idle, .hunting, none, none⟩
  holding := []

/-- The STARTED entry of either reset (R158). -/
def NoticeEntry.started (c : ResetCause) : NoticeEntry :=
  ⟨.started, none, 1, 0, .reset c, none, 0⟩

/-- The Control Link Interface after either reset (table of R180), with the straps it samples and the
level of HRX as the reset takes effect. -/
def ControlLink.reset (straps : BitVec 2) (hrxLow : Bool) : ControlLink where
  framer := .hunting
  gapWatch := 0
  breakWatch := 0
  breakDetected := false
  straps := straps
  hrxLow := hrxLow
  lowSinceReset := hrxLow
  intake := []
  responses := []
  tx := .free
  speed := straps
  quietLimit := 0
  quietTimer := .off
  damageCount := 0
  dropCount := 0

/-- The whole part after a reset has taken effect with the given cause, straps and HRX level, and the given queue of
waiting commands (R19, R45, R64, R97, R98, R146, R158, R180, R181). -/
def State.afterReset (c : ResetCause) (straps : BitVec 2) (hrxLow : Bool) (pending : List Instr) : State where
  time := 0
  pool := ⟨List.range Config.poolBlocks, []⟩
  table := ⟨[], 1, []⟩
  lanes := Vector.replicate 8 Lane.reset
  notices := ⟨[NoticeEntry.started c], 0x0FFF#16, 0⟩
  link := ControlLink.reset straps hrxLow
  restartPending := false
  resetLow := false
  pending := pending

/-- The part while RESET_N is low: every block in its reset state, the notice list empty until the reset ends, and the
straps not yet sampled (R157, R158, R160, R181). -/
def State.whileReset (speed : BitVec 2) (pending : List Instr) : State :=
  { State.afterReset .resetPin speed false pending with notices := ⟨[], 0x0FFF#16, 0⟩, resetLow := true }

/-- The part right after pin reset (R181). The spec leaves the input pins to the board: both straps low and
HRX high here, DESIGN CHOICE, unsafe (log 10). No command waits. -/
def State.reset : State := State.afterReset .resetPin 0 false []

end Sys2Proof.Machine
end

