-- ==== Sys2Proof/Machine/Flags.lean ====
section
/-! DEFINITION. The code tables of R197 and every byte of flags the formats define: the control byte of a
drop frame (R196), the sequence state (R191), the attributes and presence of QUERY (R191, R192), the notice
mask (R152, R197) and the detail byte of a notice (R195). -/

namespace Sys2Proof.Machine

/-- Statuses of a response (R168). -/
inductive Status where
  | ok | unknownRequest | badLength | badArgument | laneActive | badTransition | tableFull | poolFull
  | laneCap | noSuchTicket | notFinished | noReply | range | empty
deriving DecidableEq, Repr

/-- Status codes (R197). -/
def Status.code : Status → Byte
  | .ok => 0x00 | .unknownRequest => 0x01 | .badLength => 0x02 | .badArgument => 0x03
  | .laneActive => 0x04 | .badTransition => 0x05 | .tableFull => 0x06 | .poolFull => 0x07
  | .laneCap => 0x08 | .noSuchTicket => 0x09 | .notFinished => 0x0A | .noReply => 0x0B
  | .range => 0x0C | .empty => 0x0D

/-- Lane mode codes (R197). -/
def Mode.code : Mode → Byte
  | .hold => 0 | .pass => 1 | .halt => 2

/-- Lane phase codes (R197). -/
def Phase.code : Phase → Byte
  | .idle => 0 | .waitTime => 1 | .waitSpace => 2 | .waitSlot => 3
  | .sending => 4 | .awaitAnswer => 5 | .backoff => 6 | .resetting => 7

/-- Record state codes (R197). -/
def RecordState.code : RecordState → Byte
  | .queued => 1 | .active => 2 | .done => 3 | .failed => 4 | .cancelled => 5

/-- A terminal state (R29). -/
def RecordState.terminal : RecordState → Bool
  | .queued | .active => false
  | .done | .failed | .cancelled => true

/-- Cause codes (R197). -/
def Cause.code : Cause → Byte
  | .noAnswer => 1 | .busyLimit => 2 | .rejected => 3
  | .oversizeReply => 4 | .byHost => 5 | .flushed => 6

/-- failure_policy codes (R197). -/
def FailurePolicy.code : FailurePolicy → Byte
  | .halt => 0 | .skip => 1

/-- Host-quiet timer state codes (R197). -/
def QuietTimer.code : QuietTimer → Byte
  | .off => 0 | .running _ => 1 | .stopped => 2

/-- HELD reason codes (R197). -/
def HoldReason.code : HoldReason → Byte
  | .quota => 1 | .batchEnd => 2 | .quiet => 3

/-- LINK_DAMAGE reason codes (R197). -/
def DamageReason.code : DamageReason → Byte
  | .badCrc => 1 | .badLength => 2 | .wrongKind => 3 | .gap => 4

/-- STARTED reset cause codes (R197). -/
def ResetCause.code : ResetCause → Byte
  | .resetPin => 1 | .restart => 2

/-- Results of an accepted CANCEL (R37 to R39). -/
inductive CancelResult where
  | cancelled | marked | tooLate
deriving DecidableEq, Repr

/-- CANCEL result codes (R197). -/
def CancelResult.code : CancelResult → Byte
  | .cancelled => 1 | .marked => 2 | .tooLate => 3

/-- Notice kind codes (R197). -/
def NoticeKind.code : NoticeKind → Byte
  | .done => 0x01 | .failed => 0x02 | .halted => 0x03 | .held => 0x04
  | .idle => 0x05 | .spaceWait => 0x06 | .report => 0x07 | .overrun => 0x08
  | .started => 0x10 | .linkReset => 0x11 | .intakeDrop => 0x12 | .linkDamage => 0x13

/-- Bit of the kind in the notice mask (R197). -/
def NoticeKind.maskBit : NoticeKind → Nat
  | .done => 0 | .failed => 1 | .halted => 2 | .held => 3
  | .idle => 4 | .spaceWait => 5 | .report => 6 | .overrun => 7
  | .started => 8 | .linkReset => 9 | .intakeDrop => 10 | .linkDamage => 11

/-- The eight kinds that are raised for one lane (R148). -/
def NoticeKind.ofLane : NoticeKind → Bool
  | .done | .failed | .halted | .held | .idle | .spaceWait | .report | .overrun => true
  | .started | .linkReset | .intakeDrop | .linkDamage => false

/-- Whether the mask enables the kind (R152). -/
def enabled (mask : BitVec 16) (k : NoticeKind) : Bool := mask.getLsbD k.maskBit

/-- A mask that PART_CONFIG may write: STARTED enabled, no setting beyond the twelve kinds (R152, R190). -/
def maskLegal (mask : BitVec 16) : Bool := mask.getLsbD 8 && mask &&& 0xF000#16 == 0

/-- The detail byte of a notice (R195). -/
def Detail.code : Detail → Byte
  | .none => 0
  | .cause c => c.code
  | .held r => r.code
  | .need n => BitVec.ofNat 8 n
  | .tag t => t
  | .damage r => r.code
  | .reset c => c.code

/-- A lane field; FFh for the whole part (00_scope, Lanes). -/
def laneByte : Option LaneId → Byte
  | some l => BitVec.ofNat 8 l.val
  | none => 0xFF#8

/-- The sequence state byte of LANE_STATUS and LANE_RESEQ: bit 0 seq, bit 1 resync mark (R191). -/
def sequenceState (seq resync : Bool) : Byte := flagBit 0 seq ||| flagBit 1 resync

/-- The control byte of a frame the part sends (R115, R196). -/
def dropControl (kind : FrameKind) (seq sync replyWanted : Bool) : Byte :=
  flagBit 5 replyWanted |||
  match kind with
  | .data => flagBit 4 sync ||| flagBit 3 seq ||| 1#8
  | .nreq => flagBit 3 seq ||| 2#8

/-- Kinds of a frame from the node by the low three bits of its control byte (R114). `none` names kind 0
and the two kinds that only the part sends. -/
inductive NodeKind where
  | none | report | ack | busy | reject | reply
deriving DecidableEq, Repr

/-- The kind of a frame from the node (R114, R196). -/
def nodeKind (control : Byte) : NodeKind :=
  match (control &&& 7#8).toNat with
  | 3 => .report
  | 4 => .ack
  | 5 => .busy
  | 6 => .reject
  | 7 => .reply
  | _ => .none

/-- The answer kinds (R114). -/
def NodeKind.isAnswer : NodeKind → Bool
  | .ack | .busy | .reject | .reply => true
  | .none | .report => false

/-- The lengths a kind admits (R114). -/
def NodeKind.lengthOk (k : NodeKind) (n : Nat) : Bool :=
  match k with
  | .none => false
  | .report => n ≤ 64
  | .ack | .busy => n == 0
  | .reject => n == 1
  | .reply => n ≤ 512

/-- The seq a frame from the node answers (R196). -/
def answerSeq (control : Byte) : Bool := control.getLsbD 3

/-- The header check of R117. -/
def headerGood (control : Byte) (length : Nat) : Bool :=
  control &&& 0xC0#8 == 0 && (nodeKind control).lengthOk length

/-- The attributes byte of QUERY (R191). -/
def attributesByte (r : Record) : Byte :=
  flagBit 0 r.urgent ||| flagBit 1 r.batchEnd ||| flagBit 2 r.replyWanted |||
  flagBit 3 r.uncertain ||| flagBit 4 r.cancelMark

/-- The presence byte of QUERY (R192). -/
def presenceByte (r : Record) (position : Option Nat) : Byte :=
  flagBit 0 r.replyLimit.isSome ||| flagBit 1 r.releaseTime.isSome ||| flagBit 2 r.cause.isSome |||
  flagBit 3 r.rejectCode.isSome ||| flagBit 4 r.completionTime.isSome ||| flagBit 5 position.isSome

end Sys2Proof.Machine
end

