-- ==== Sys2Proof/Machine/Ops.lean ====
section
/-! DEFINITION. The named operations: reading and updating one block of the part, events into the Notice Unit
(chapter 8), chains and the grant scan of the Block Pool (chapter 1), and the selection of a head (chapter 4).
An operation that finds no record where the rules guarantee one leaves the state as it is (log 19). -/

namespace Sys2Proof.Machine

/-! ### One block at a time -/

/-- Updates the Block Pool alone. -/
def State.onPool (f : BlockPool → BlockPool) (s : State) : State := { s with pool := f s.pool }

/-- Updates the Message Table alone. -/
def State.onTable (f : MessageTable → MessageTable) (s : State) : State := { s with table := f s.table }

/-- Updates the Notice Unit alone. -/
def State.onNotices (f : NoticeUnit → NoticeUnit) (s : State) : State := { s with notices := f s.notices }

/-- Updates the Control Link Interface alone. -/
def State.onLink (f : ControlLink → ControlLink) (s : State) : State := { s with link := f s.link }

/-- One lane. -/
def State.lane (s : State) (l : LaneId) : Lane := s.lanes.get l

/-- Updates one lane alone. -/
def State.onLane (l : LaneId) (f : Lane → Lane) (s : State) : State :=
  { s with lanes := s.lanes.set l.val (f (s.lane l)) }

/-- The live record that a ticket names (R21). -/
def State.record? (s : State) (t : Ticket) : Option Record := s.table.records.find? (fun r => r.ticket == t)

/-- Updates the record that a ticket names. -/
def State.onRecord (t : Ticket) (f : Record → Record) (s : State) : State :=
  s.onTable fun m => { m with records := m.records.map fun r => if r.ticket = t then f r else r }

/-- Updates the counters of a lane (R95). -/
def State.onCounters (l : LaneId) (f : LaneCounters → LaneCounters) (s : State) : State :=
  s.onLane l fun x => { x with counters := f x.counters }

/-- Updates the Drop Port of a lane (R113). -/
def State.onPort (l : LaneId) (f : DropPort → DropPort) (s : State) : State :=
  s.onLane l fun x => { x with port := f x.port }

/-- Sets a lane's phase (R74). -/
def State.setPhase (l : LaneId) (p : Phase) (s : State) : State := s.onLane l fun x => { x with phase := p }

/-- Sets a lane's mode (R68). -/
def State.setMode (l : LaneId) (m : Mode) (s : State) : State := s.onLane l fun x => { x with mode := m }

/-- A lane is busy while it has an ACTIVE record or is RESETTING (R75). -/
def Lane.busy (x : Lane) : Bool := x.active.isSome || x.phase == .resetting

/-- A lane with pacing_num not 0 (R103). -/
def Lane.paced (x : Lane) : Bool := x.config.pacingNum != 0

/-! ### Notices (chapter 8) -/

/-- An event handed to the Notice Unit (R148). -/
structure Event where
  kind : NoticeKind
  lane : Option LaneId
  ticket : Ticket
  detail : Detail
  rejectCode : Option Byte
deriving DecidableEq, Repr

/-- The entry is the pending one of the event's lane and kind (R151). -/
def Event.matches (e : Event) (n : NoticeEntry) : Bool := n.kind == e.kind && n.lane == e.lane

/-- An event merged into its pending entry (R151). -/
def Event.merge (e : Event) (time : PartTime) (n : NoticeEntry) : NoticeEntry :=
  { n with count := satInc 255 n.count, ticket := e.ticket, detail := e.detail, rejectCode := e.rejectCode, time := time }

/-- A new entry for an event (R151). -/
def Event.entry (e : Event) (time : PartTime) : NoticeEntry := ⟨e.kind, e.lane, 1, e.ticket, e.detail, e.rejectCode, time⟩

/-- The Notice Unit takes an event: discarded when masked, merged or appended otherwise (R151). -/
def NoticeUnit.take (e : Event) (time : PartTime) (n : NoticeUnit) : NoticeUnit :=
  if enabled n.mask e.kind then
    if n.entries.any e.matches then
      { n with entries := n.entries.map fun x => if e.matches x then e.merge time x else x }
    else { n with entries := n.entries ++ [e.entry time] }
  else n

/-- Hands an event to the Notice Unit; its time is part time now (R100, R148). -/
def State.raise (e : Event) (s : State) : State := s.onNotices (NoticeUnit.take e s.time)

/-- Hands a lane event without reject code (R148). -/
def State.raiseLane (l : LaneId) (k : NoticeKind) (t : Ticket) (d : Detail) (s : State) : State :=
  s.raise ⟨k, some l, t, d, none⟩

/-- Hands a part-wide event, latest ticket 0 (R148). -/
def State.raisePart (k : NoticeKind) (d : Detail) (s : State) : State := s.raise ⟨k, none, 0, d, none⟩

/-! ### Output pins and line rates (R112, R113, R157, R160, R171, R181) -/

/-- ATTN_N is low while the notice list holds an entry, and high while RESET_N is low (R157). -/
def State.attnLow (s : State) : Bool := !s.resetLow && !s.notices.entries.isEmpty

/-- DTXn is held low by the break of a drop reset alone (R112, R134). -/
def State.dtxBreak (s : State) (l : LaneId) : Bool := (s.lane l).port.tx == .breaking

/-- The rate of both wires of a lane in bit/s, by its line_rate (R65, R112). -/
def Lane.bitRate (x : Lane) : Nat := Config.lineRate.getD x.config.lineRate 0

/-- The rate of both wires of the control link in bit/s, by the straps sampled (R160). -/
def ControlLink.bitRate (k : ControlLink) : Nat := Config.linkRate.getD k.speed.toNat 0

/-- The level of DTXn, high as true: high when idle, low in a break, and the characters of the frame being sent,
`periods` periods of CLKIN after its first start bit began (R112, R113, R134; log 15). -/
def State.dtxHigh (s : State) (l : LaneId) (periods : Nat) : Bool :=
  match (s.lane l).port.tx with
  | .idle => true
  | .breaking => false
  | .sending frame => frameHigh (s.lane l).bitRate frame periods

/-- The level of HTX, high as true: high whenever no frame is being sent, and the characters of the frame being sent,
`periods` periods of CLKIN after its first start bit began (R160, R171; log 15). -/
def State.htxHigh (s : State) (periods : Nat) : Bool :=
  match s.link.tx with
  | .free | .held => true
  | .sendingResponse frame | .sendingNotice frame => frameHigh s.link.bitRate frame periods

/-! ### The reset of a RESTART (R179, R180) -/

/-- The RESTART response has left the response queue: it is the frame being sent (R178, R179). -/
def State.restartDue (s : State) : Bool := s.restartPending && s.link.responses.isEmpty

/-- The straps and HRX as last sampled (R160, R172). -/
def ControlLink.pins (k : ControlLink) : PinLevels := ⟨k.straps, k.hrxLow⟩

/-- The reset of a RESTART takes effect, with the pins it samples (R179, R180). -/
def State.restartReset (pins : PinLevels) (s : State) : State :=
  State.afterReset .restart pins.straps pins.hrxLow s.pending

/-! ### Blocks and held counts (sections 1.1 and 1.2) -/

/-- The free count (R1). -/
def State.freeCount (s : State) : Nat := s.pool.free.length

/-- Blocks in the chains of a record (R1). -/
def Record.blocks (r : Record) : Nat := r.payloadChain.length + r.replyChain.length

/-- The held count of a lane: the blocks in the chains of its live records (R3). -/
def State.held (s : State) (l : LaneId) : Nat :=
  ((s.table.records.filter fun r => r.lane == l).map Record.blocks).sum

/-- A record's reply need in blocks (R6). -/
def Record.replyNeed (r : Record) : Nat := if r.replyWanted then blockCount (r.replyLimit.getD 0) else 0

/-- Granting would take the lane's held count above its cap, judged now (R8). -/
def State.capBlocked (s : State) (e : WaitEntry) : Bool := (s.lane e.lane).config.cap < s.held e.lane + e.need

/-- The needs owed to waiting lanes that are not cap-blocked (R5). -/
def State.protectedSum (s : State) : Nat := ((s.pool.waiting.filter fun e => !s.capBlocked e).map WaitEntry.need).sum

/-- Takes `n` blocks out of the free set; which ones shows nowhere (R1, log 7). -/
def State.dropFree (n : Nat) (s : State) : State := s.onPool fun p => { p with free := p.free.drop n }

/-- Returns blocks to the free set (section 1.6). -/
def State.returnBlocks (bs : List BlockNo) (s : State) : State := s.onPool fun p => { p with free := p.free ++ bs }

/-- Moves `n` free blocks into the reply chain of a record (R6, R7, R12). -/
def State.reserve (t : Ticket) (n : Nat) (s : State) : State :=
  (s.onRecord t fun r => { r with replyChain := r.replyChain ++ s.pool.free.take n }).dropFree n

/-- Removes a lane's entry from the space waiting list (R8). -/
def State.removeWaiting (l : LaneId) (s : State) : State :=
  s.onPool fun p => { p with waiting := p.waiting.filter fun e => e.lane != l }

/-- Appends an entry to the space waiting list (R7). -/
def State.appendWaiting (e : WaitEntry) (s : State) : State := s.onPool fun p => { p with waiting := p.waiting ++ [e] }

/-- Gives a lane's entry a new need; it keeps its place (R13). -/
def State.setNeed (l : LaneId) (n : Nat) (s : State) : State :=
  s.onPool fun p => { p with waiting := p.waiting.map fun e => if e.lane = l then ⟨l, n⟩ else e }

/-- The lane has an entry in the space waiting list (R8). -/
def State.isWaiting (s : State) (l : LaneId) : Bool := s.pool.waiting.any fun e => e.lane == l

/-! ### Activation and the grant scan (section 1.4, R27) -/

/-- The record at the head of a lane's queue (R47). -/
def State.head? (s : State) (l : LaneId) : Option Record :=
  match (s.lane l).queue with
  | [] => none
  | t :: _ => s.record? t

/-- The head of a lane becomes ACTIVE with `need` blocks reserved for its reply; the lane enters WAIT_SLOT with
a DATA frame ready (R27, R12, R76). -/
def State.activate (l : LaneId) (t : Ticket) (need : Nat) (s : State) : State :=
  ((s.reserve t need).onRecord t fun r =>
      { r with state := .active, misses := 0, busies := 0, uncertain := false }).onLane l fun x =>
    { x with queue := x.queue.erase t, active := some t, phase := .waitSlot, ready := .data, busyCount := 0 }

/-- Grants an entry of the space waiting list (R12). -/
def State.grant (e : WaitEntry) (s : State) : State :=
  match s.head? e.lane with
  | none => s
  | some r => (s.removeWaiting e.lane).activate e.lane r.ticket e.need

/-- The walk of the grant scan over the entries, oldest first (R11). -/
def State.scanFrom (s : State) : List WaitEntry → State
  | [] => s
  | e :: rest =>
    if s.capBlocked e then s.scanFrom rest
    else if e.need ≤ s.freeCount then (s.grant e).scanFrom rest
    else s

/-- The grant scan (R10, R11). -/
def State.grantScan (s : State) : State := s.scanFrom s.pool.waiting

/-! ### Head selection (R51 to R54, R70, R76) -/

/-- A release time is reached when part time minus it, modulo 2^32, is less than 2^31; a record without one
has it reached at all times (R52). -/
def released (now : PartTime) : Option PartTime → Bool
  | none => true
  | some t => (now - t).toNat < 2 ^ 31

/-- The reply-space step of selection (R6, R7). -/
def State.spaceStep (l : LaneId) (r : Record) (s : State) : State :=
  if r.replyNeed = 0 then s.activate l r.ticket 0
  else if s.pool.waiting.isEmpty && r.replyNeed ≤ s.freeCount &&
      s.held l + r.replyNeed ≤ (s.lane l).config.cap then s.activate l r.ticket r.replyNeed
  else
    let s' := ((s.setPhase l .waitSpace).appendWaiting ⟨l, r.replyNeed⟩).grantScan
    if s'.isWaiting l then s'.raiseLane l .spaceWait r.ticket (.need r.replyNeed) else s'

/-- A lane in PASS that is not busy judges its head (R53, R76); with no head it is in IDLE. -/
def State.judgeHead (l : LaneId) (s : State) : State :=
  match s.head? l with
  | none => s.setPhase l .idle
  | some r => if released s.time r.releaseTime then s.spaceStep l r else s.setPhase l .waitTime

/-- A head change in WAIT_SPACE (R13, R14). Every branch is a change to the list, and one scan follows. -/
def State.updateNeed (l : LaneId) (s : State) : State :=
  match s.head? l with
  | none => ((s.removeWaiting l).setPhase l .idle).grantScan
  | some r =>
    if !released s.time r.releaseTime then ((s.removeWaiting l).setPhase l .waitTime).grantScan
    else if r.replyNeed = 0 then ((s.removeWaiting l).activate l r.ticket 0).grantScan
    else (s.setNeed l r.replyNeed).grantScan

/-- The re-evaluation at a head change (R51). -/
def State.headChanged (l : LaneId) (s : State) : State :=
  match (s.lane l).mode, (s.lane l).phase with
  | .pass, .idle => s.judgeHead l
  | .pass, .waitTime => s.judgeHead l
  | .pass, .waitSpace => s.updateNeed l
  | _, _ => s

/-- What a lane that leaves PASS or is flushed does with a waiting head: WAIT_TIME and WAIT_SPACE go to IDLE, and
an entry leaves the space waiting list (R71, R72, R14, R56). The scan is the caller's. -/
def State.stopWaiting (l : LaneId) (s : State) : State :=
  match (s.lane l).phase with
  | .waitTime => s.setPhase l .idle
  | .waitSpace => (s.removeWaiting l).setPhase l .idle
  | _ => s

/-- A lane that leaves PASS by LANE_MODE: after WAIT_SPACE a scan follows (R71, R72). -/
def State.leaveWait (l : LaneId) (s : State) : State :=
  if (s.lane l).phase = .waitSpace then (s.stopWaiting l).grantScan else s.stopWaiting l

/-! ### Queue order (R48, R50) -/

/-- The ticket names an URGENT record. -/
def State.isUrgent (s : State) (t : Ticket) : Bool :=
  match s.record? t with
  | some r => r.urgent
  | none => false

/-- Inserts a ticket immediately after the URGENT run (R48, R50). -/
def State.afterUrgent (s : State) (t : Ticket) (q : List Ticket) : List Ticket :=
  q.takeWhile s.isUrgent ++ t :: q.dropWhile s.isUrgent

/-- Inserts a newly submitted ticket by class (R48). -/
def State.insertNew (l : LaneId) (t : Ticket) (urgent : Bool) (s : State) : State :=
  s.onLane l fun x => { x with queue := if urgent then s.afterUrgent t x.queue else x.queue ++ [t] }

/-- Puts a halt-aborted ticket back at the front of its class (R50). -/
def State.requeue (l : LaneId) (t : Ticket) (urgent : Bool) (s : State) : State :=
  s.onLane l fun x => { x with queue := if urgent then t :: x.queue else s.afterUrgent t x.queue }

end Sys2Proof.Machine
end

