-- ==== Sys2Proof/Machine/Cycle.lean ====
section
/-! DEFINITION. The shared operations of the delivery cycle (chapter 4): records becoming terminal, a lane that
stops being busy, the outcomes of an attempt, the halt-abort, and the judgement of answers (chapter 6). -/

namespace Sys2Proof.Machine

/-! ### Records becoming terminal (R29, R15, R16) -/

/-- An ACTIVE or QUEUED record becomes FAILED or CANCELLED: state, cause, reject code and completion time are
written, both chains return to the free set, and the ticket joins the completion list (R16, R29, R30). The scan
is the caller's. -/
def State.endRecord (t : Ticket) (st : RecordState) (cause : Cause) (reject : Option Byte) (s : State) : State :=
  match s.record? t with
  | none => s
  | some r =>
    ((s.returnBlocks (r.payloadChain ++ r.replyChain)).onRecord t fun x =>
        { x with state := st, cause := some cause, rejectCode := reject, completionTime := some s.time,
                 payloadChain := [], payload := [], replyChain := [], reply := [] }).onTable fun m =>
      { m with completion := m.completion ++ [t] }

/-- An ACTIVE record becomes DONE with `n` reply bytes: the payload chain is freed, the reply chain is trimmed to
the block count for `n`, the first blocks kept (R15, R24, R29). The scan is the caller's. -/
def State.completeRecord (t : Ticket) (n : Nat) (s : State) : State :=
  match s.record? t with
  | none => s
  | some r =>
    ((s.returnBlocks (r.payloadChain ++ r.replyChain.drop (blockCount n))).onRecord t fun x =>
        { x with state := .done, completionTime := some s.time, replyLength := n,
                 payloadChain := [], payload := [],
                 replyChain := x.replyChain.take (blockCount n), reply := x.reply.take n }).onTable fun m =>
      { m with completion := m.completion ++ [t] }

/-! ### A lane that stops being busy (R75) -/

/-- The lane stops being busy; `t` is the ticket whose ending made it so, 0 at the end of a drop reset. In HOLD
or HALT it goes to IDLE and raises IDLE; in PASS it judges its head (R75). -/
def State.stopBusy (l : LaneId) (t : Ticket) (s : State) : State :=
  let s' := s.onLane l fun x => { x with active := none, phase := .idle }
  match (s.lane l).mode with
  | .pass => s'.judgeHead l
  | .hold | .halt => s'.raiseLane l .idle t .none

/-! ### Outcomes of an attempt (R80 to R89) -/

/-- Sets the lane's resync mark when the ending record's uncertain is yes (R86). -/
def State.markResync (l : LaneId) (uncertain : Bool) (s : State) : State :=
  s.onLane l fun x => { x with resync := x.resync || uncertain }

/-- Whether a failure halts the lane (R87). -/
def selfHalts (c : LaneConfig) : Cause → Bool
  | .noAnswer | .busyLimit => c.failurePolicy == .halt
  | .rejected | .oversizeReply => true
  | .byHost | .flushed => false

/-- The active record `t` of lane `l` becomes FAILED (R87). `uncertain` is the record's, as its attempts left it. -/
def State.failRecord (l : LaneId) (t : Ticket) (cause : Cause) (reject : Option Byte) (uncertain : Bool) (s : State) : State :=
  let s1 := (s.endRecord t .failed cause reject).grantScan.markResync l uncertain
  let s2 := (s1.onCounters l fun c => { c with failed := satInc 65535 c.failed }).raise
    ⟨.failed, some l, t, .cause cause, reject⟩
  let s3 := if selfHalts (s.lane l).config cause then
      (s2.setMode l .halt).raise ⟨.halted, some l, t, .cause cause, reject⟩
    else s2
  s3.stopBusy l t

/-- The marked or cancelled active record `t` of lane `l` becomes CANCELLED/BY_HOST, and the lane stops being
busy; no event is raised for the record (R88, R89). -/
def State.cancelActive (l : LaneId) (t : Ticket) (uncertain : Bool) (s : State) : State :=
  (((s.endRecord t .cancelled .byHost none).grantScan.markResync l uncertain).onLane l fun x =>
    { x with backoffTimer := none }).stopBusy l t

/-- A miss of lane `l`; `reply` says that it came by a damaged frame whose header gave kind REPLY (R85, R89,
R124, R129). -/
def State.takeMiss (l : LaneId) (reply : Bool) (s : State) : State :=
  match (s.lane l).active with
  | none => s
  | some t =>
    match s.record? t with
    | none => s
    | some r =>
      let s1 := (s.onCounters l fun c => { c with missesTotal := satInc 65535 c.missesTotal }).onRecord t fun x =>
        { x with misses := satInc 255 x.misses, uncertain := true }
      if r.cancelMark then s1.cancelActive l t true
      else if (s.lane l).config.retryLimit < satInc 255 r.misses then s1.failRecord l t .noAnswer none true
      else s1.onLane l fun x => { x with phase := .waitSlot, ready := if reply then .nreq else .data }

/-- A BUSY with matching seq (R81, R89). -/
def State.takeBusy (l : LaneId) (t : Ticket) (r : Record) (s : State) : State :=
  let s1 := ((s.onCounters l fun c => { c with busiesTotal := satInc 65535 c.busiesTotal }).onRecord t fun x =>
      { x with busies := satInc 255 x.busies, uncertain := false }).onLane l fun x =>
    { x with busyCount := x.busyCount + 1 }
  if r.cancelMark then s1.cancelActive l t false
  else if (s.lane l).config.busyLimit ≠ 0 ∧ (s.lane l).config.busyLimit < (s.lane l).busyCount + 1 then
    s1.failRecord l t .busyLimit none false
  else s1.onLane l fun x =>
    { x with phase := .backoff, backoffTimer := some (Config.ticksPerMs * x.config.busyBackoff) }

/-- A REJECT with matching seq and the node's code (R83). -/
def State.takeReject (l : LaneId) (t : Ticket) (code : Byte) (s : State) : State :=
  (s.onRecord t fun x => { x with uncertain := false }).failRecord l t .rejected (some code) false

/-- A REPLY longer than reply_limit (R84): the lane toggles its seq and the record fails. -/
def State.takeOversize (l : LaneId) (t : Ticket) (r : Record) (s : State) : State :=
  (s.onLane l fun x => { x with seq := !x.seq }).failRecord l t .oversizeReply none r.uncertain

/-- The quota after a DONE: quota_left falls by 1 unless Q or it is 0 (R59). -/
def quotaAfterDone (x : Lane) : Nat := if x.config.quota = 0 then x.quotaLeft else x.quotaLeft - 1

/-- The hold that a DONE causes on a lane in PASS: BATCH_END before QUOTA (R59, R60, R61). -/
def holdAfterDone (x : Lane) (batchEnd : Bool) : Option HoldReason :=
  if x.mode = .pass then
    if batchEnd then some .batchEnd
    else if x.config.quota ≠ 0 ∧ x.quotaLeft = 1 then some .quota
    else none
  else none

/-- An ACK or a REPLY that completes the active record with `n` reply bytes (R80). -/
def State.completeActive (l : LaneId) (t : Ticket) (r : Record) (n : Nat) (s : State) : State :=
  let s1 := ((s.completeRecord t n).grantScan.onLane l fun x => { x with seq := !x.seq, resync := false }).onCounters l
    fun c => { c with delivered := c.delivered + 1 }
  let s2 := (s1.raiseLane l .done t .none).onLane l fun x => { x with quotaLeft := quotaAfterDone x }
  let s3 := match holdAfterDone (s.lane l) r.batchEnd with
    | some why => (s2.setMode l .hold).raiseLane l .held t (.held why)
    | none => s2
  s3.stopBusy l t

/-! ### Answers (R124, R125, R130, R131) -/

/-- Counts a damaged frame (R118). -/
def State.countDamaged (l : LaneId) (s : State) : State :=
  s.onCounters l fun c => { c with damagedFrames := satInc 65535 c.damagedFrames }

/-- Counts a stray frame (R125). -/
def State.countStray (l : LaneId) (s : State) : State :=
  s.onCounters l fun c => { c with strayFrames := satInc 65535 c.strayFrames }

/-- Starts the ack timer with the full ack_timeout (R78, R101, R125). -/
def State.startAck (l : LaneId) (s : State) : State :=
  s.onLane l fun x => { x with ackTimer := some (Config.ticksPerMs * x.config.ackTimeout) }

/-- Payload bytes of an expected REPLY with matching seq go into the reservation from its start, up to
reply_limit, over whatever stood there (R130). -/
def State.storeReply (l : LaneId) (f : RxFrame) (bytes : List Byte) (s : State) : State :=
  if f.answer = .expected ∧ nodeKind f.control = .reply ∧ answerSeq f.control = (s.lane l).seq then
    match (s.lane l).active with
    | none => s
    | some t => s.onRecord t fun x =>
        if x.replyWanted then
          { x with reply := bytes.take (x.replyLimit.getD 0) ++ x.reply.drop (min bytes.length (x.replyLimit.getD 0)) }
        else x
  else s

/-- An undamaged expected frame at its end (R124 steps 2 to 6, R131). -/
def State.judgeAnswer (l : LaneId) (control : Byte) (payload : List Byte) (s : State) : State :=
  if answerSeq control = (s.lane l).seq then
    match (s.lane l).active with
    | none => s
    | some t =>
      match s.record? t with
      | none => s
      | some r =>
        match nodeKind control with
        | .ack => s.completeActive l t r 0
        | .busy => s.takeBusy l t r
        | .reject => s.takeReject l t (payload.headD 0)
        | .reply =>
          if r.replyWanted then
            if payload.length ≤ r.replyLimit.getD 0 then s.completeActive l t r payload.length
            else s.takeOversize l t r
          else s.completeActive l t r 0
        | .none | .report => s
  else (s.countStray l).startAck l

/-- A damaged frame: counted, and a miss when it was expected (R118, R124 step 1). -/
def State.damagedFrame (l : LaneId) (expected reply : Bool) (s : State) : State :=
  if expected then (s.countDamaged l).takeMiss l reply else s.countDamaged l

/-! ### Node reports (chapter 7) -/

/-- An undamaged REPORT reaches the lane's holding: appended below two reports, lost otherwise (R140, R141). -/
def State.arriveReport (l : LaneId) (bytes : List Byte) (s : State) : State :=
  if (s.lane l).holding.length < Config.reportsHeld then
    (s.onLane l fun x => { x with holding := x.holding ++ [⟨bytes, s.time⟩] }).raiseLane l .report 0 .none
  else
    (s.onCounters l fun c => { c with reportOverruns := satInc 65535 c.reportOverruns }).raiseLane l .overrun 0 .none

/-! ### Halt-abort (section 4.7) -/

/-- A frame in reception is no longer expected (R126). -/
def Receiver.unexpect : Receiver → Receiver
  | .frame f => .frame (if f.answer = .expected then { f with answer := .unexpected } else f)
  | r => r

/-- Ends the attempt of a lane at once: timers stopped, a frame on DTXn cut, an answer in reception unexpected
(R91, R126; log 15). -/
def State.cutAttempt (l : LaneId) (s : State) : State :=
  s.onLane l fun x =>
    { x with ackTimer := none, backoffTimer := none,
             port := { x.port with tx := .idle, rx := x.port.rx.unexpect } }

/-- The halt-abort of the active record `t` of lane `l` (R91, R92): back to QUEUED at the front of its class with
the reservation freed, or CANCELLED when marked; the lane is in HALT and stops being busy. -/
def State.haltAbort (l : LaneId) (t : Ticket) (s : State) : State :=
  match s.record? t with
  | none => s
  | some r =>
    let uncertain := r.uncertain || (s.lane l).phase == .awaitAnswer
    let s1 := (s.cutAttempt l).onRecord t fun x => { x with uncertain := uncertain }
    let s2 := if r.cancelMark then (s1.endRecord t .cancelled .byHost none).markResync l uncertain
      else ((s1.returnBlocks r.replyChain).onRecord t fun x =>
          { x with state := .queued, replyChain := [], reply := [] }).requeue l t r.urgent
    ((s2.setMode l .halt).grantScan).stopBusy l t

end Sys2Proof.Machine
end

