-- ==== Sys2Proof/Machine/DropLine.lean ====
section
/-! DEFINITION. The receiver of a Drop Port (chapter 6): R116 to R119, R123 to R126, R130, R132. A character that
the receiver does not look for changes nothing (R116; log 2, log 13). -/

namespace Sys2Proof.Machine

/-- The hunting receiver takes 6Ch and begins to measure gaps (R116). While RESET_N is low nothing is framed (R181). -/
def State.dropStartByte (l : LaneId) (s : State) : State :=
  if (s.lane l).port.rx = .hunting ∧ s.resetLow = false then s.onPort l fun p => { p with rx := .header false 0 } else s

/-- The receiver returns to hunting (R116, R117). -/
def State.hunt (l : LaneId) (s : State) : State := s.onPort l fun p => { p with rx := .hunting }

/-- A header of this kind is expected: an answer kind in AWAIT_ANSWER with the ack timer running (R123). A timer
that has come to 0 and whose expiry is not yet taken still runs (R127). -/
def Lane.expects (x : Lane) (k : NodeKind) : Bool := k.isAnswer && x.phase == .awaitAnswer && x.ackTimer.isSome

/-- The class of a frame by its header (R123). -/
def Lane.classify (x : Lane) (k : NodeKind) : AnswerClass :=
  if x.expects k then .expected else if k == .report then .report else .unexpected

/-- The receiver takes a header: an answer kind that is expected stops the ack timer; a header that fails its
check makes the frame damaged at once (R117, R123, R124). -/
def State.dropHeader (l : LaneId) (control lenHi lenLo : Byte) (s : State) : State :=
  match (s.lane l).port.rx with
  | .header rateChanged _ =>
    let kind := nodeKind control
    let expected := (s.lane l).expects kind
    let s1 := if expected then s.onLane l fun x => { x with ackTimer := none } else s
    if headerGood control (natOf [lenHi, lenLo]) then
      s1.onPort l fun p =>
        { p with rx := .frame ⟨control, natOf [lenHi, lenLo], 4, crc16 [control, lenHi, lenLo],
                               (s.lane l).classify kind, rateChanged, 0⟩ }
    else (s1.hunt l).damagedFrame l expected (kind == .reply)
  | _ => s

/-- The frame in progress is cut short by a gap or a framing fault (R116): damaged, and a miss when its header was
expected (R124). `taken` are the characters since its last step; a frame that they would complete is not cut
(log 13). -/
def State.cutFrame (l : LaneId) (taken : List Byte) (s : State) : State :=
  match (s.lane l).port.rx with
  | .header _ _ => if taken.length < 3 then (s.hunt l).countDamaged l else s
  | .frame f =>
    if taken.length < f.length + 2 then
      ((s.storeReply l f (taken.take f.length)).hunt l).damagedFrame l (f.answer == .expected) (nodeKind f.control == .reply)
    else s
  | .hunting | .discarding => s

/-- The gap measurement of a receiver within a frame (R113). -/
def Receiver.gap? : Receiver → Option Nat
  | .header _ gap => some gap
  | .frame f => some f.gap
  | .hunting | .discarding => none

/-- The receiver is within a frame, and the pause since the last stop bit, `since` periods of CLKIN after the last advance,
exceeds 4 character times at the lane's line rate (R116, R119). -/
def Lane.gapOver (since : Nat) (x : Lane) : Bool := x.port.rx.gap?.any fun gap => gapExceeded x.bitRate (gap + since)

/-- The frame in progress is cut by a gap when the pause has exceeded the limit (R116). -/
def State.gapCut (l : LaneId) (cut : GapCut) (s : State) : State :=
  if (s.lane l).gapOver cut.since then s.cutFrame l cut.taken else s

/-- A frame with a good header ends (R118): its reply bytes have been stored as they arrived (R130), its CRC is
judged, and it is handed on (R124, R125, R132). -/
def State.dropFrameEnd (l : LaneId) (chars : List Byte) (s : State) : State :=
  match (s.lane l).port.rx with
  | .frame f =>
    if chars.length = f.length + 2 then
      let payload := chars.take f.length
      let good := !f.rateChanged && chars.drop f.length == checkBytes (crcMore f.check payload)
      let s1 := (s.storeReply l f payload).hunt l
      if good then
        match f.answer with
        | .expected => s1.judgeAnswer l f.control payload
        | .unexpected => s1.countStray l
        | .report => s1.arriveReport l payload
      else s1.damagedFrame l (f.answer == .expected) (nodeKind f.control == .reply)
    else s
  | _ => s

/-- DROP_START_BYTE (R116). -/
def execDropStartByte (l : LaneId) (s : State) : Host.Outcome State Fault Refusal := .next (s.dropStartByte l)

/-- DROP_HEADER_TAKEN (R117, R123). -/
def execDropHeaderTaken (l : LaneId) (control lenHi lenLo : Byte) (s : State) : Host.Outcome State Fault Refusal :=
  .next (s.dropHeader l control lenHi lenLo)

/-- DROP_GAP_CUT (R116). -/
def execDropGapCut (l : LaneId) (cut : GapCut) (s : State) : Host.Outcome State Fault Refusal :=
  .next (s.gapCut l cut)

/-- DROP_FRAMING_FAULT (R116). -/
def execDropFramingFault (l : LaneId) (taken : List Byte) (s : State) : Host.Outcome State Fault Refusal :=
  .next (s.cutFrame l taken)

/-- DROP_FRAME_END (R118). -/
def execDropFrameEnd (l : LaneId) (chars : List Byte) (s : State) : Host.Outcome State Fault Refusal :=
  .next (s.dropFrameEnd l chars)

end Sys2Proof.Machine
end

