-- ==== Sys2Proof/Machine/LaneEvents.lean ====
section
/-! DEFINITION. The events of one lane's controller, generator and timers (chapters 3 to 6): R54, R77, R78, R82,
R85, R104, R105, R115, R134, R135. An event whose condition does not hold changes nothing (log 2). -/

namespace Sys2Proof.Machine

/-- A credit earned at the last advance waits to join the count (R104, log 17). -/
def State.creditDue (s : State) (l : LaneId) : Bool := (s.lane l).slots.due

/-- The earned credit joins the count below burst and is lost at burst (R104). -/
def SlotGenerator.earn (burst : Nat) (g : SlotGenerator) : SlotGenerator :=
  { g with credits := if g.credits < burst then g.credits + 1 else g.credits, due := false }

/-- A paced lane's credit earned at the last advance (R104). -/
def State.creditEarned (l : LaneId) (s : State) : State :=
  if s.creditDue l then s.onLane l fun x => { x with slots := x.slots.earn x.config.burst } else s

/-- A lane in WAIT_TIME finds its head's release time reached (R54). -/
def State.releaseDue (s : State) (l : LaneId) : Bool :=
  (s.lane l).mode == .pass && (s.lane l).phase == .waitTime &&
  match s.head? l with
  | none => false
  | some r => released s.time r.releaseTime

/-- The lane leaves WAIT_TIME for the reply-space step (R54, R7). -/
def State.releaseReached (l : LaneId) (s : State) : State := if s.releaseDue l then s.judgeHead l else s

/-- A lane in WAIT_SLOT may start its frame: it is unpaced or holds a credit (R77, R105). -/
def State.startDue (s : State) (l : LaneId) : Bool :=
  (s.lane l).phase == .waitSlot && (!(s.lane l).paced || 1 ≤ (s.lane l).slots.credits) &&
  ((s.lane l).active.bind s.record?).isSome

/-- The bytes of the frame a lane starts for a record (R78, R115, R196). -/
def frameFor (x : Lane) (r : Record) : List Byte :=
  dropFrame (dropControl x.ready x.seq x.resync r.replyWanted) (match x.ready with | .data => r.payload | .nreq => [])

/-- The frame starts: a paced lane takes a credit, sends rises, and the lane is in SENDING (R77, R78, R105). -/
def State.startFrame (l : LaneId) (s : State) : State :=
  if s.startDue l then
    match (s.lane l).active.bind s.record? with
    | none => s
    | some r =>
      (s.onRecord r.ticket fun x => { x with sends := satInc 255 x.sends }).onLane l fun x =>
        { x with phase := .sending, slots := if x.paced then { x.slots with credits := x.slots.credits - 1 } else x.slots,
                 port := { x.port with tx := .sending (frameFor x r) } }
  else s

/-- The last character of the frame has gone out: AWAIT_ANSWER, ack timer started (R78). -/
def State.frameSent (l : LaneId) (s : State) : State :=
  if (s.lane l).phase = .sending then
    ((s.setPhase l .awaitAnswer).onPort l fun p => { p with tx := .idle }).startAck l
  else s

/-- The ack timer has expired in AWAIT_ANSWER (R79, R101). -/
def State.ackDue (s : State) (l : LaneId) : Bool := (s.lane l).phase == .awaitAnswer && (s.lane l).ackTimer == some 0

/-- The ack timer expires before an answer header is taken: a miss (R79, R85). -/
def State.ackExpiry (l : LaneId) (s : State) : State :=
  if s.ackDue l then (s.onLane l fun x => { x with ackTimer := none }).takeMiss l false else s

/-- The backoff timer has expired (R82, R101). -/
def State.backoffDue (s : State) (l : LaneId) : Bool := (s.lane l).phase == .backoff && (s.lane l).backoffTimer == some 0

/-- The backoff timer expires: WAIT_SLOT with a DATA frame ready (R82). -/
def State.backoffExpiry (l : LaneId) (s : State) : State :=
  if s.backoffDue l then s.onLane l fun x => { x with backoffTimer := none, phase := .waitSlot, ready := .data } else s

/-- The break timer of a drop reset has expired (R101, R134). -/
def State.dropBreakDue (s : State) (l : LaneId) : Bool :=
  (s.lane l).phase == .resetting && (s.lane l).port.breakTimer == some 0

/-- DTXn returns high and the recovery timer starts (R134). -/
def State.dropBreakEnd (l : LaneId) (s : State) : State :=
  if s.dropBreakDue l then
    s.onPort l fun p => { p with tx := .idle, breakTimer := none, recoveryTimer := some Config.dropRecoveryTicks }
  else s

/-- The recovery timer of a drop reset has expired (R101, R135). -/
def State.dropRecoveryDue (s : State) (l : LaneId) : Bool :=
  (s.lane l).phase == .resetting && (s.lane l).port.recoveryTimer == some 0

/-- The drop reset ends: the receiver hunts afresh, seq 0, resync mark set, the lane stops being busy (R135). -/
def State.dropResetEnd (l : LaneId) (s : State) : State :=
  if s.dropRecoveryDue l then
    (s.onLane l fun x =>
      { x with seq := false, resync := true, port := { x.port with rx := .hunting, recoveryTimer := none } }).stopBusy l 0
  else s

/-- SLOT_CREDIT_EARNED (R104). -/
def execSlotCreditEarned (l : LaneId) (s : State) : Host.Outcome State Fault Refusal := .next (s.creditEarned l)

/-- RELEASE_TIME_REACHED (R54). -/
def execReleaseTimeReached (l : LaneId) (s : State) : Host.Outcome State Fault Refusal := .next (s.releaseReached l)

/-- TRANSMISSION_START (R77, R105). -/
def execTransmissionStart (l : LaneId) (s : State) : Host.Outcome State Fault Refusal := .next (s.startFrame l)

/-- DROP_FRAME_SENT (R78). -/
def execDropFrameSent (l : LaneId) (s : State) : Host.Outcome State Fault Refusal := .next (s.frameSent l)

/-- ACK_TIMEOUT (R85). -/
def execAckTimeout (l : LaneId) (s : State) : Host.Outcome State Fault Refusal := .next (s.ackExpiry l)

/-- BACKOFF_EXPIRY (R82). -/
def execBackoffExpiry (l : LaneId) (s : State) : Host.Outcome State Fault Refusal := .next (s.backoffExpiry l)

/-- DROP_RESET_BREAK_END (R134). -/
def execDropResetBreakEnd (l : LaneId) (s : State) : Host.Outcome State Fault Refusal := .next (s.dropBreakEnd l)

/-- DROP_RESET_END (R135). -/
def execDropResetEnd (l : LaneId) (s : State) : Host.Outcome State Fault Refusal := .next (s.dropResetEnd l)

end Sys2Proof.Machine
end

