-- ==== Sys2Proof/Machine/Operands.lean ====
section
/-! DEFINITION. The operand forms of the requests: how a request body is read (R188, R189), which length it
must have (R187) and which values its fields admit (R190). Each reader answers BAD_LENGTH before
BAD_ARGUMENT, as R168 orders its steps 1 and 3. -/

namespace Sys2Proof.Machine

/-- The rows of the table that a request can fall under. -/
inductive RequestRow where
  | identify | partStatus | partConfig | restart | laneConfig | laneModeHold | laneModePass | laneModeHalt
  | laneStatus | laneFlush | laneReseqForce | laneReseqMark | dropReset | submit | cancel | query
  | replyRead | collect | retire | reportTake | unknown
deriving DecidableEq, Repr

/-- The row whose command executes a request with this body, by its code (R197) and, for LANE_MODE and
LANE_RESEQ, by the target or action at offset 2. A LANE_MODE body that names neither PASS nor HALT falls under
the HOLD row and a LANE_RESEQ body that does not name MARK under the FORCE row, where it is judged and
answered as R168 says. DESIGN CHOICE, safe: log 6. -/
def requestRow (body : List Byte) : RequestRow :=
  match (body.headD 0).toNat with
  | 0x01 => .identify
  | 0x02 => .partStatus
  | 0x03 => .partConfig
  | 0x04 => .restart
  | 0x10 => .laneConfig
  | 0x11 => if body[2]? = some 1#8 then .laneModePass else if body[2]? = some 2#8 then .laneModeHalt else .laneModeHold
  | 0x12 => .laneStatus
  | 0x13 => .laneFlush
  | 0x14 => if body[2]? = some 2#8 then .laneReseqMark else .laneReseqForce
  | 0x15 => .dropReset
  | 0x20 => .submit
  | 0x21 => .cancel
  | 0x22 => .query
  | 0x23 => .replyRead
  | 0x24 => .collect
  | 0x25 => .retire
  | 0x30 => .reportTake
  | _ => .unknown

/-- A lane field, 0..7 (R190). -/
def laneOf (b : Byte) : Option LaneId := if h : b.toNat < 8 then some ⟨b.toNat, h⟩ else none

/-- A value if a check holds, BAD_ARGUMENT otherwise. -/
def argument {α : Type} (ok : Bool) (a : α) : Except Status α := if ok then .ok a else .error .badArgument

/-- A lane, BAD_ARGUMENT outside 0..7 (R190). -/
def laneArgument (b : Byte) : Except Status LaneId :=
  match laneOf b with
  | some l => .ok l
  | none => .error .badArgument

/-- A ticket field, BAD_ARGUMENT for 0000h (R190). -/
def ticketArgument (hi lo : Byte) : Except Status Ticket := argument (natOf [hi, lo] != 0) (natOf [hi, lo])

/-- IDENTIFY and RESTART: the code alone (R187, R188). -/
def noArgs : List Byte → Except Status Unit
  | [_] => .ok ()
  | _ => .error .badLength

/-- A flags byte with only bit 0, the clear flag, defined (R188, R190). -/
def clearFlag (flags : Byte) : Except Status Bool := argument (flags &&& 0xFE#8 == 0) (flags.getLsbD 0)

/-- PART_STATUS (R188): the clear flag. -/
def partStatusArgs : List Byte → Except Status Bool
  | [_, flags] => clearFlag flags
  | _ => .error .badLength

/-- A host-quiet limit: 0, or 10..60000 ms (R184, R190). -/
def quietLimitLegal (n : Nat) : Bool := n == 0 || (10 ≤ n && n ≤ 60000)

/-- PART_CONFIG (R184, R188): the mask and the host-quiet limit. -/
def partConfigArgs : List Byte → Except Status (BitVec 16 × Nat)
  | [_, m1, m0, q1, q0] =>
    argument (maskLegal (m1 ++ m0) && quietLimitLegal (natOf [q1, q0])) (m1 ++ m0, natOf [q1, q0])
  | _ => .error .badLength

/-- The ranges of R65 with pacing_num not above pacing_den (R66 step 2). -/
def LaneConfig.legal (c : LaneConfig) : Bool :=
  c.lineRate ≤ 7 && c.pacingNum ≤ c.pacingDen && 1 ≤ c.pacingDen && c.pacingDen ≤ 65535 &&
  1 ≤ c.burst && c.burst ≤ 8 && 1 ≤ c.ackTimeout && c.ackTimeout ≤ 1000 &&
  1 ≤ c.busyBackoff && c.busyBackoff ≤ 1000 && c.retryLimit ≤ 15 && c.busyLimit ≤ 255 &&
  c.defaultReplyLimit ≤ 512 && c.cap ≤ 512 && c.quota ≤ 65535

/-- failure_policy: 00h HALT, 01h SKIP (R190). -/
def failurePolicyOf (b : Byte) : Option FailurePolicy :=
  if b = 0#8 then some .halt else if b = 1#8 then some .skip else none

/-- LANE_CONFIG (R66 steps 1 and 2, R188): the lane and the whole record. -/
def laneConfigArgs : List Byte → Except Status (LaneId × LaneConfig)
  | [_, lane, rate, n1, n0, d1, d0, burst, a1, a0, k1, k0, retry, busy, policy, r1, r0, c1, c0, q1, q0] =>
    match laneOf lane, failurePolicyOf policy with
    | some l, some p =>
      let c : LaneConfig :=
        { lineRate := rate.toNat, pacingNum := natOf [n1, n0], pacingDen := natOf [d1, d0],
          burst := burst.toNat, ackTimeout := natOf [a1, a0], busyBackoff := natOf [k1, k0],
          retryLimit := retry.toNat, busyLimit := busy.toNat, failurePolicy := p,
          defaultReplyLimit := natOf [r1, r0], cap := natOf [c1, c0], quota := natOf [q1, q0] }
      argument c.legal (l, c)
    | _, _ => .error .badArgument
  | _ => .error .badLength

/-- LANE_MODE (R69, R188): the lane, once the target is one of the three mode codes. -/
def laneModeArgs : List Byte → Except Status LaneId
  | [_, lane, target] => if target.toNat ≤ 2 then laneArgument lane else .error .badArgument
  | _ => .error .badLength

/-- LANE_STATUS (R96, R188): the lane and the clear flag. -/
def laneStatusArgs : List Byte → Except Status (LaneId × Bool)
  | [_, lane, flags] =>
    match laneArgument lane, clearFlag flags with
    | .ok l, .ok c => .ok (l, c)
    | _, _ => .error .badArgument
  | _ => .error .badLength

/-- LANE_FLUSH, DROP_RESET and REPORT_TAKE (R188): a lane. -/
def laneArgs : List Byte → Except Status LaneId
  | [_, lane] => laneArgument lane
  | _ => .error .badLength

/-- LANE_RESEQ (R137, R188): the lane and the bit value, which is 0 for MARK. -/
def laneReseqArgs : List Byte → Except Status (LaneId × Bool)
  | [_, lane, action, bit] =>
    if (action = 1#8 ∧ bit.toNat ≤ 1) ∨ (action = 2#8 ∧ bit = 0#8) then
      match laneArgument lane with
      | .ok l => .ok (l, bit.getLsbD 0)
      | .error e => .error e
    else .error .badArgument
  | _ => .error .badLength

/-- CANCEL, QUERY and RETIRE (R188): a ticket. -/
def ticketArgs : List Byte → Except Status Ticket
  | [_, t1, t0] => ticketArgument t1 t0
  | _ => .error .badLength

/-- The arguments of a REPLY_READ (R41). -/
structure ReplyReadArgs where
  ticket : Ticket
  offset : Nat
  count : Nat
deriving DecidableEq, Repr

/-- REPLY_READ (R41, R188): ticket, offset, count 1..256. -/
def replyReadArgs : List Byte → Except Status ReplyReadArgs
  | [_, t1, t0, o1, o0, c1, c0] =>
    argument (natOf [t1, t0] != 0 && 1 ≤ natOf [c1, c0] && natOf [c1, c0] ≤ Config.maxReadCount)
      ⟨natOf [t1, t0], natOf [o1, o0], natOf [c1, c0]⟩
  | _ => .error .badLength

/-- COLLECT (R42, R188): the filter, none for FFh, and the maximum 1..64. -/
def collectArgs : List Byte → Except Status (Option LaneId × Nat)
  | [_, lane, maximum] =>
    if 1 ≤ maximum.toNat ∧ maximum.toNat ≤ Config.maxCollect then
      if lane = 0xFF#8 then .ok (none, maximum.toNat)
      else match laneOf lane with
        | some l => .ok (some l, maximum.toNat)
        | none => .error .badArgument
    else .error .badArgument
  | _ => .error .badLength

/-- The arguments of a SUBMIT (R34). -/
structure SubmitArgs where
  lane : LaneId
  urgent : Bool
  batchEnd : Bool
  replyWanted : Bool
  releaseTime : Option PartTime
  /-- present only when the body gives one -/
  replyLimit : Option Nat
  payload : List Byte
deriving DecidableEq, Repr

/-- Bytes that the release time takes in a SUBMIT body (R189). -/
def timeBytes (flags : Byte) : Nat := if flags.getLsbD 3 then 4 else 0

/-- Bytes that the reply limit takes in a SUBMIT body (R189). -/
def limitBytes (flags : Byte) : Nat := if flags.getLsbD 4 then 2 else 0

/-- The ranges of R34. -/
def submitLegal (flags : Byte) (limit payloadLength : Nat) : Bool :=
  flags &&& 0xE0#8 == 0 && (!flags.getLsbD 4 || (flags.getLsbD 2 && limit ≤ 512)) && payloadLength ≤ 512

/-- SUBMIT (R33 steps 1 and 2, R34, R189). -/
def submitArgs : List Byte → Except Status SubmitArgs
  | _ :: lane :: flags :: rest =>
    let time := rest.take (timeBytes flags)
    let limit := (rest.drop (timeBytes flags)).take (limitBytes flags)
    match rest.drop (timeBytes flags + limitBytes flags) with
    | p1 :: p0 :: payload =>
      if payload.length = natOf [p1, p0] then
        match laneOf lane with
        | some l =>
          argument (submitLegal flags (natOf limit) payload.length)
            { lane := l, urgent := flags.getLsbD 0, batchEnd := flags.getLsbD 1,
              replyWanted := flags.getLsbD 2,
              releaseTime := if flags.getLsbD 3 then some (BitVec.ofNat 32 (natOf time)) else none,
              replyLimit := if flags.getLsbD 4 then some (natOf limit) else none,
              payload := payload }
        | none => .error .badArgument
      else .error .badLength
    | _ => .error .badLength
  | _ => .error .badLength

end Sys2Proof.Machine
end

