-- ==== Sys2Proof/Machine/Processor.lean ====
section
/-! DEFINITION. The Request Processor's step (R167, R169): taking the oldest intake entry, executing it, building
the response and appending it, all in one step; and the bodies of the responses that report (R191). -/

namespace Sys2Proof.Machine

/-- What executing a request answers: a status and the content after it (R169, R191). -/
structure Reply where
  status : Status
  content : List Byte
deriving DecidableEq, Repr

/-- Status OK with its content. -/
def Reply.ok (content : List Byte) : Reply := ⟨.ok, content⟩

/-- A refusal without content (R169, R191). -/
def Reply.refuse (st : Status) : Reply := ⟨st, []⟩

/-- The response to a request: its tag, its code echoed, the status and the content (R169). -/
def Reply.response (q : Request) (r : Reply) : Response := ⟨q.tag, q.body.headD 0 :: r.status.code :: r.content⟩

/-- Appends a response to the tail of the response queue (R167). -/
def State.respond (q : Request) (r : Reply) (s : State) : State :=
  s.onLink fun k => { k with responses := k.responses ++ [r.response q] }

/-- The processor may take a request: room in the response queue and no RESTART pending (R167). -/
def State.processorReady (s : State) : Bool := s.link.responses.length < Config.queueEntries && !s.restartPending

/-- The request that the processor takes next, when the conditions of R167 hold and the request falls under the
row. -/
def State.nextRequest (row : RequestRow) (s : State) : Option Request :=
  match s.link.intake with
  | [] => none
  | q :: _ => if s.processorReady && requestRow q.body == row then some q else none

/-- The oldest intake entry leaves the queue (R165). -/
def State.popIntake (s : State) : State := s.onLink fun k => { k with intake := k.intake.tail }

/-- The one step of R167: take, execute with `run`, respond. A row whose request is not the one to be taken changes
nothing (log 2). -/
def State.takeRequest (row : RequestRow) (run : List Byte → State → Reply × State) (s : State) : State :=
  match s.nextRequest row with
  | none => s
  | some q =>
    let out := run q.body s.popIntake
    out.2.respond q out.1

/-- The configuration record in the order of LANE_CONFIG offsets 2 to 20 (R188). -/
def LaneConfig.bytes (c : LaneConfig) : List Byte :=
  bytesOf 1 c.lineRate ++ bytesOf 2 c.pacingNum ++ bytesOf 2 c.pacingDen ++ bytesOf 1 c.burst ++
  bytesOf 2 c.ackTimeout ++ bytesOf 2 c.busyBackoff ++ bytesOf 1 c.retryLimit ++ bytesOf 1 c.busyLimit ++
  [c.failurePolicy.code] ++ bytesOf 2 c.defaultReplyLimit ++ bytesOf 2 c.cap ++ bytesOf 2 c.quota

/-- The counters in the order of LANE_STATUS offsets 37 to 52 (R191). -/
def LaneCounters.bytes (c : LaneCounters) : List Byte :=
  bytesOf 4 c.delivered.toNat ++ bytesOf 2 c.failed ++ bytesOf 2 c.missesTotal ++ bytesOf 2 c.busiesTotal ++
  bytesOf 2 c.damagedFrames ++ bytesOf 2 c.strayFrames ++ bytesOf 2 c.reportOverruns

/-- The content of an IDENTIFY response (R182, R191). -/
def identifyContent : List Byte :=
  bytesOf 1 Config.vendorCode ++ bytesOf 1 Config.partCode ++ bytesOf 1 Config.revision ++ bytesOf 1 8 ++
  bytesOf 2 Config.poolBlocks ++ bytesOf 1 Config.blockSize ++ bytesOf 1 Config.maxRecords ++
  bytesOf 2 Config.maxPayload ++ bytesOf 2 Config.maxPayload ++ bytesOf 1 Config.maxReport ++
  bytesOf 1 Config.reportsHeld ++ bytesOf 1 Config.queueEntries ++ bytesOf 1 Config.queueEntries ++
  bytesOf 1 Config.noticeEntries ++ bytesOf 2 Config.maxReadCount ++ bytesOf 1 Config.maxCollect

/-- The content of a PART_STATUS response (R183, R191). -/
def State.partStatusContent (s : State) : List Byte :=
  bytesOf 2 s.freeCount ++ bytesOf 1 s.table.records.length ++ bytesOf 1 s.table.completion.length ++
  bytesOf 2 s.table.counter ++ bytesOf 4 s.time.toNat ++ bytesOf 2 s.link.damageCount ++ bytesOf 2 s.link.dropCount ++
  bytesOf 2 s.link.quietLimit ++ [s.link.quietTimer.code] ++ bytesOf 2 s.notices.mask.toNat ++
  bytesOf 1 s.link.speed.toNat ++ bytesOf 1 s.pool.waiting.length ++
  s.pool.waiting.flatMap fun e => bytesOf 1 e.lane.val ++ bytesOf 1 e.need

/-- The content of a LANE_STATUS response (R96, R191). -/
def State.laneStatusContent (s : State) (l : LaneId) : List Byte :=
  let x := s.lane l
  bytesOf 1 l.val ++ [x.mode.code, x.phase.code] ++ bytesOf 2 (x.active.getD 0) ++ [sequenceState x.seq x.resync] ++
  x.config.bytes ++ bytesOf 2 x.quotaLeft ++ bytesOf 1 x.queue.length ++
  bytesOf 1 (x.queue.filter s.isUrgent).length ++ bytesOf 2 (x.queue.headD 0) ++ bytesOf 2 (s.held l) ++
  bytesOf 1 x.slots.credits ++ bytesOf 1 x.holding.length ++ x.counters.bytes

/-- The queue position of a QUEUED record, 1 for the head (R40). -/
def State.queuePosition (s : State) (r : Record) : Option Nat :=
  if r.state = .queued then some ((s.lane r.lane).queue.idxOf r.ticket + 1) else none

/-- The content of a QUERY response (R40, R191, R192). -/
def State.queryContent (s : State) (r : Record) : List Byte :=
  let position := s.queuePosition r
  bytesOf 2 r.ticket ++ bytesOf 1 r.lane.val ++ [r.state.code, attributesByte r, presenceByte r position] ++
  bytesOf 2 (r.replyLimit.getD 0) ++ bytesOf 4 ((r.releaseTime.map BitVec.toNat).getD 0) ++
  bytesOf 2 r.payloadLength ++ bytesOf 2 r.replyLength ++ bytesOf 1 r.sends ++ bytesOf 1 r.misses ++
  bytesOf 1 r.busies ++ [(r.cause.map Cause.code).getD 0, r.rejectCode.getD 0] ++
  bytesOf 4 ((r.completionTime.map BitVec.toNat).getD 0) ++ bytesOf 1 (position.getD 0)

/-- The entries of the completion list that match a COLLECT filter, oldest first (R42). -/
def State.collectMatches (s : State) (filter : Option LaneId) : List Record :=
  (s.table.completion.filterMap s.record?).filter fun r => filter.all fun l => r.lane == l

/-- The content of a COLLECT response (R42, R191). -/
def State.collectContent (s : State) (filter : Option LaneId) (maximum : Nat) : List Byte :=
  let found := s.collectMatches filter
  let shown := found.take maximum
  bytesOf 1 found.length ++ bytesOf 1 shown.length ++ shown.flatMap fun r => bytesOf 2 r.ticket ++ [r.state.code]

end Sys2Proof.Machine
end

