-- ==== Sys2Proof/Machine/LaneRequests.lean ====
section
/-! DEFINITION. The requests that name a lane: LANE_CONFIG, LANE_MODE, LANE_STATUS, LANE_FLUSH, LANE_RESEQ,
DROP_RESET (R55, R66, R67, R69 to R72, R96, R133, R137). -/

namespace Sys2Proof.Machine

/-- The lane is in PASS or busy, which refuses LANE_CONFIG, DROP_RESET and LANE_RESEQ with LANE_ACTIVE (R66, R133,
R137). -/
def Lane.laneActive (x : Lane) : Bool := x.mode == .pass || x.busy

/-- A frame in reception is marked when the line rate changes (R119; log 14). -/
def Receiver.rateChange : Receiver → Receiver
  | .header _ gap => .header true gap
  | .frame f => .frame { f with rateChanged := true }
  | r => r

/-- The record written, the Slot Generator cleared, quota_left loaded (R67, R108, R119). -/
def Lane.configure (c : LaneConfig) (x : Lane) : Lane :=
  { x with config := c, slots := ⟨0, 0, false⟩, quotaLeft := c.quota,
           port := { x.port with rx := if c.lineRate = x.config.lineRate then x.port.rx else x.port.rx.rateChange } }

/-- LANE_CONFIG on the body (R66, R67). -/
def runLaneConfig (body : List Byte) (s : State) : Reply × State :=
  match laneConfigArgs body with
  | .error e => (.refuse e, s)
  | .ok (l, c) =>
    if (s.lane l).laneActive then (.refuse .laneActive, s)
    else if c.cap < s.held l then (.refuse .badArgument, s)
    else (.ok [], s.onLane l (Lane.configure c))

/-- LANE_MODE's answer: the mode after the request and the aborted ticket (R69, R191). -/
def modeReply (m : Mode) (aborted : Ticket) : Reply := .ok (m.code :: bytesOf 2 aborted)

/-- LANE_MODE to HOLD (R69, R71). -/
def runLaneModeHold (body : List Byte) (s : State) : Reply × State :=
  match laneModeArgs body with
  | .error e => (.refuse e, s)
  | .ok l =>
    match (s.lane l).mode with
    | .hold => (modeReply .hold 0, s)
    | .pass => (modeReply .hold 0, (s.setMode l .hold).leaveWait l)
    | .halt => (modeReply .hold 0, s.setMode l .hold)

/-- LANE_MODE to PASS (R69, R70). -/
def runLaneModePass (body : List Byte) (s : State) : Reply × State :=
  match laneModeArgs body with
  | .error e => (.refuse e, s)
  | .ok l =>
    match (s.lane l).mode with
    | .hold =>
      let s1 := s.onLane l fun x => { x with mode := .pass, quotaLeft := x.config.quota }
      (modeReply .pass 0, if (s.lane l).busy then s1 else s1.judgeHead l)
    | .pass => (modeReply .pass 0, s)
    | .halt => (.refuse .badTransition, s)

/-- A lane enters HALT from HOLD or PASS (R72). -/
def State.enterHalt (l : LaneId) (s : State) : State :=
  match (s.lane l).active with
  | some t => s.haltAbort l t
  | none => (s.setMode l .halt).leaveWait l

/-- LANE_MODE to HALT (R69, R72). -/
def runLaneModeHalt (body : List Byte) (s : State) : Reply × State :=
  match laneModeArgs body with
  | .error e => (.refuse e, s)
  | .ok l =>
    match (s.lane l).mode with
    | .halt => (modeReply .halt 0, s)
    | .hold | .pass => (modeReply .halt ((s.lane l).active.getD 0), s.enterHalt l)

/-- LANE_STATUS on the body: the figures are taken before the clear flag clears the counters (R96). -/
def runLaneStatus (body : List Byte) (s : State) : Reply × State :=
  match laneStatusArgs body with
  | .error e => (.refuse e, s)
  | .ok (l, clear) =>
    (.ok (s.laneStatusContent l), if clear then s.onCounters l fun _ => .zero else s)

/-- Every queued record of the list becomes CANCELLED/FLUSHED, in order (R55). -/
def State.flushAll (q : List Ticket) (s : State) : State :=
  q.foldl (fun s t => s.endRecord t .cancelled .flushed none) s

/-- The flush of a lane that has queued records: one change to the pool, one scan (R55, R56). -/
def State.flushLane (l : LaneId) (s : State) : State :=
  (((s.flushAll (s.lane l).queue).onLane l fun x => { x with queue := [] }).stopWaiting l).grantScan

/-- LANE_FLUSH on the body (R55, R56). -/
def runLaneFlush (body : List Byte) (s : State) : Reply × State :=
  match laneArgs body with
  | .error e => (.refuse e, s)
  | .ok l =>
    (.ok (bytesOf 1 (s.lane l).queue.length), if (s.lane l).queue.isEmpty then s else s.flushLane l)

/-- LANE_RESEQ with FORCE (R137). -/
def runLaneReseqForce (body : List Byte) (s : State) : Reply × State :=
  match laneReseqArgs body with
  | .error e => (.refuse e, s)
  | .ok (l, bit) =>
    if (s.lane l).laneActive then (.refuse .laneActive, s)
    else (.ok [sequenceState bit false], s.onLane l fun x => { x with seq := bit, resync := false })

/-- LANE_RESEQ with MARK (R137). -/
def runLaneReseqMark (body : List Byte) (s : State) : Reply × State :=
  match laneReseqArgs body with
  | .error e => (.refuse e, s)
  | .ok (l, _) =>
    if (s.lane l).laneActive then (.refuse .laneActive, s)
    else (.ok [sequenceState (s.lane l).seq true], s.onLane l fun x => { x with resync := true })

/-- A drop reset begins: break on DTXn, receiver discarding, break timer started (R134). -/
def Lane.beginReset (x : Lane) : Lane :=
  { x with phase := .resetting,
           port := { x.port with tx := .breaking, rx := .discarding, breakTimer := some Config.dropBreakTicks } }

/-- DROP_RESET on the body (R133, R134). -/
def runDropReset (body : List Byte) (s : State) : Reply × State :=
  match laneArgs body with
  | .error e => (.refuse e, s)
  | .ok l =>
    if (s.lane l).laneActive then (.refuse .laneActive, s) else (.ok [], s.onLane l Lane.beginReset)

/-- LANE_CONFIG (R66, R67). -/
def execLaneConfig (s : State) : Host.Outcome State Fault Refusal := .next (s.takeRequest .laneConfig runLaneConfig)

/-- LANE_MODE to HOLD (R71). -/
def execLaneModeHold (s : State) : Host.Outcome State Fault Refusal := .next (s.takeRequest .laneModeHold runLaneModeHold)

/-- LANE_MODE to PASS (R70). -/
def execLaneModePass (s : State) : Host.Outcome State Fault Refusal := .next (s.takeRequest .laneModePass runLaneModePass)

/-- LANE_MODE to HALT (R72). -/
def execLaneModeHalt (s : State) : Host.Outcome State Fault Refusal := .next (s.takeRequest .laneModeHalt runLaneModeHalt)

/-- LANE_STATUS (R96). -/
def execLaneStatus (s : State) : Host.Outcome State Fault Refusal := .next (s.takeRequest .laneStatus runLaneStatus)

/-- LANE_FLUSH (R55). -/
def execLaneFlush (s : State) : Host.Outcome State Fault Refusal := .next (s.takeRequest .laneFlush runLaneFlush)

/-- LANE_RESEQ with FORCE (R137). -/
def execLaneReseqForce (s : State) : Host.Outcome State Fault Refusal :=
  .next (s.takeRequest .laneReseqForce runLaneReseqForce)

/-- LANE_RESEQ with MARK (R137). -/
def execLaneReseqMark (s : State) : Host.Outcome State Fault Refusal :=
  .next (s.takeRequest .laneReseqMark runLaneReseqMark)

/-- DROP_RESET (R133). -/
def execDropReset (s : State) : Host.Outcome State Fault Refusal := .next (s.takeRequest .dropReset runDropReset)

end Sys2Proof.Machine
end

