-- ==== Sys2Proof/Machine/LinkEvents.lean ====
section
/-! DEFINITION. The events of the control link (chapter 9): frames from the host, the break, the host-quiet
expiry, and the transmitter (R154, R162 to R166, R170 to R176). An event whose condition does not hold changes
nothing (log 2). -/

namespace Sys2Proof.Machine

/-! ### Reception (R162 to R166) -/

/-- A frame discarded as damaged: counted, noticed, and the framer hunts again (R164). -/
def State.linkDamage (why : DamageReason) (s : State) : State :=
  (s.onLink fun k => { k with framer := .hunting, gapWatch := 0, damageCount := satInc 65535 k.damageCount }).raisePart
    .linkDamage (.damage why)

/-- The hunting framer takes B7h. The character shows that HRX is not low (R162, R163, R170). While RESET_N is low
nothing is framed (R181). -/
def State.controlStartByte (s : State) : State :=
  if s.link.framer = .hunting ∧ s.resetLow = false then
    s.onLink fun k => { k with framer := .header, gapWatch := 0, hrxLow := false, lowSinceReset := false }
  else s

/-- The two length bytes: L outside 3..560 is damaged with BAD_LENGTH at once (R162). -/
def State.controlHeader (lenHi lenLo : Byte) (s : State) : State :=
  if s.link.framer = .header then
    if 3 ≤ natOf [lenHi, lenLo] ∧ natOf [lenHi, lenLo] ≤ 560 then
      s.onLink fun k => { k with framer := .frame lenHi lenLo 3 (crc16 [lenHi, lenLo]), gapWatch := 0 }
    else s.linkDamage .badLength
  else s

/-- A good request frame (R165, R166, R175): the host-quiet timer starts afresh, and the request joins the intake
queue or is dropped, counted and noticed. -/
def State.goodRequest (q : Request) (s : State) : State :=
  let s1 := s.onLink fun k =>
    { k with framer := .hunting, gapWatch := 0,
             quietTimer := if k.quietLimit = 0 then .off else .running (Config.ticksPerMs * k.quietLimit) }
  if s.link.intake.length < Config.queueEntries then s1.onLink fun k => { k with intake := k.intake ++ [q] }
  else (s1.onLink fun k => { k with dropCount := satInc 65535 k.dropCount }).raisePart .intakeDrop (.tag q.tag)

/-- The judgement at the second check character (R162): `chars` are the L counted characters and the two check
characters; another number of characters ends no frame (log 13). -/
def State.controlFrameEnd (chars : List Byte) (s : State) : State :=
  match s.link.framer with
  | .frame lenHi lenLo _ check =>
    if chars.length = natOf [lenHi, lenLo] + 2 then
      let covered := chars.take (natOf [lenHi, lenLo])
      if chars.drop (natOf [lenHi, lenLo]) = checkBytes (crcMore check covered) then
        match covered with
        | kind :: tag :: body => if kind = requestKind then s.goodRequest ⟨tag, body⟩ else s.linkDamage .wrongKind
        | _ => s
      else s.linkDamage .badCrc
    else s
  | _ => s

/-- The framer is within a frame (R163). -/
def Framer.inFrame : Framer → Bool
  | .header | .frame _ _ _ _ => true
  | .hunting | .stopped => false

/-- The control frame gap watch is satisfied (R101, R163). -/
def State.gapDue (s : State) : Bool := s.link.framer.inFrame && Config.gapWatchTicks ≤ s.link.gapWatch

/-- The gap watch is satisfied: the frame in progress is damaged with reason GAP (R163). -/
def State.controlGap (s : State) : State := if s.gapDue then s.linkDamage .gap else s

/-! ### Break (R172 to R174) -/

/-- The link break watch is satisfied and the break is not yet detected (R101, R172). -/
def State.breakDue (s : State) : Bool := Config.breakWatchTicks ≤ s.link.breakWatch && !s.link.breakDetected

/-- A break is detected (R172). A pending RESTART's response is discarded with the queue or the frame, and its reset
takes effect in the same step, with HRX low (R172, R179, R180; log 8). -/
def State.linkBreak (s : State) : State :=
  if s.breakDue then
    if s.restartPending then s.restartReset ⟨s.link.straps, true⟩
    else s.onLink fun k =>
      { k with framer := .stopped, gapWatch := 0, breakDetected := true, hrxLow := true, intake := [], responses := [],
               tx := .held }
  else s

/-- HRX returns high after a detected break (R174). -/
def State.linkReset (s : State) : State :=
  if s.link.breakDetected then
    (s.onLink fun k =>
      { k with framer := .hunting, gapWatch := 0, breakWatch := 0, breakDetected := false, hrxLow := false,
               lowSinceReset := false, tx := .free }).raisePart .linkReset .none
  else s

/-! ### Host-quiet supervision (R175, R176) -/

/-- One lane in PASS is held by the expiry and raises HELD (R176, R71). The scan is the caller's. -/
def State.holdQuiet (l : LaneId) (s : State) : State :=
  if (s.lane l).mode = .pass then
    ((s.setMode l .hold).stopWaiting l).raiseLane l .held 0 (.held .quiet)
  else s

/-- The eight lanes in ascending order. -/
def allLanes : List LaneId := [0, 1, 2, 3, 4, 5, 6, 7]

/-- The host-quiet timer has expired (R101, R176). -/
def State.quietDue (s : State) : Bool := s.link.quietTimer == .running 0

/-- The host-quiet expiry: every lane in PASS is held, one scan for all (R176; lanes in ascending order, log 12). -/
def State.quietExpiry (s : State) : State :=
  if s.quietDue then
    (allLanes.foldl (fun s l => s.holdQuiet l) (s.onLink fun k => { k with quietTimer := .stopped })).grantScan
  else s

/-! ### The transmitter (R154, R169 to R171) -/

/-- The transmitter may start a frame (R170, R180). -/
def ControlLink.canStart (k : ControlLink) : Bool := k.tx == .free && !k.lowSinceReset

/-- The oldest response starts and leaves its queue (R169, R170). -/
def State.responseStart (s : State) : State :=
  match s.link.responses with
  | [] => s
  | r :: rest =>
    if s.link.canStart then
      s.onLink fun k => { k with responses := rest, tx := .sendingResponse (controlFrame responseKind r.tag r.body) }
    else s

/-- The twelve bytes of a notice body (R194, R195). -/
def NoticeEntry.body (n : NoticeEntry) : List Byte :=
  [n.kind.code, laneByte n.lane] ++ bytesOf 1 n.count ++ bytesOf 2 n.ticket ++
  [n.detail.code, flagBit 0 n.rejectCode.isSome, n.rejectCode.getD 0] ++ bytesOf 4 n.time.toNat

/-- The oldest notice entry starts, when no response is queued, and leaves the list; the notice number advances
(R154, R170). After the end of a RESTART response no further frame starts before the reset (R179). -/
def State.noticeStart (s : State) : State :=
  match s.notices.entries with
  | [] => s
  | n :: rest =>
    if s.link.canStart && s.link.responses.isEmpty && !s.restartPending then
      (s.onNotices fun u => { u with entries := rest, number := u.number + 1 }).onLink fun k =>
        { k with tx := .sendingNotice (controlFrame noticeKind s.notices.number n.body) }
    else s

/-- The last character of a response or notice frame goes out: the transmitter is free, and after the RESTART response
the reset takes effect in the same step (R171, R179; log 8). -/
def State.controlFrameSent (s : State) : State :=
  match s.link.tx with
  | .sendingResponse _ => if s.restartDue then s.restartReset s.link.pins else s.onLink fun k => { k with tx := .free }
  | .sendingNotice _ => s.onLink fun k => { k with tx := .free }
  | .free | .held => s

/-- CONTROL_START_BYTE (R162). -/
def execControlStartByte (s : State) : Host.Outcome State Fault Refusal := .next s.controlStartByte

/-- CONTROL_HEADER_TAKEN (R162). -/
def execControlHeaderTaken (lenHi lenLo : Byte) (s : State) : Host.Outcome State Fault Refusal :=
  .next (s.controlHeader lenHi lenLo)

/-- CONTROL_FRAME_END (R162). -/
def execControlFrameEnd (chars : List Byte) (s : State) : Host.Outcome State Fault Refusal := .next (s.controlFrameEnd chars)

/-- CONTROL_FRAME_GAP (R163). -/
def execControlFrameGap (s : State) : Host.Outcome State Fault Refusal := .next s.controlGap

/-- LINK_BREAK (R172). -/
def execLinkBreak (s : State) : Host.Outcome State Fault Refusal := .next s.linkBreak

/-- LINK_RESET (R174). -/
def execLinkReset (s : State) : Host.Outcome State Fault Refusal := .next s.linkReset

/-- HOST_QUIET_EXPIRY (R176). -/
def execHostQuietExpiry (s : State) : Host.Outcome State Fault Refusal := .next s.quietExpiry

/-- RESPONSE_START (R170). -/
def execResponseStart (s : State) : Host.Outcome State Fault Refusal := .next s.responseStart

/-- NOTICE_START (R154). -/
def execNoticeStart (s : State) : Host.Outcome State Fault Refusal := .next s.noticeStart

/-- CONTROL_FRAME_SENT (R171). -/
def execControlFrameSent (s : State) : Host.Outcome State Fault Refusal := .next s.controlFrameSent

end Sys2Proof.Machine
end

