-- ==== Sys2Proof/Machine/MessageRequests.lean ====
section
/-! DEFINITION. The requests about messages and reports: SUBMIT, CANCEL, QUERY, REPLY_READ, COLLECT, RETIRE,
REPORT_TAKE (R33 to R43, R143). -/

namespace Sys2Proof.Machine

/-- The ticket counter's successor: 65535 is followed by 1 (R25). -/
def nextTicket (t : Ticket) : Ticket := if t < 65535 then t + 1 else 1

/-- The candidates that a ticket search examines, the counter's value first (R25). -/
def ticketCandidates : Nat → Ticket → List Ticket
  | 0, _ => []
  | n + 1, t => t :: ticketCandidates n (nextTicket t)

/-- The ticket that the table issues: the first candidate that is not live. At most 127 other records are live, so
128 candidates suffice (R25). -/
def MessageTable.issue (m : MessageTable) : Option Ticket :=
  (ticketCandidates Config.maxRecords m.counter).find? fun t => !m.records.any fun r => r.ticket == t

/-- The new record of an accepted SUBMIT (R34, R35). -/
def newRecord (a : SubmitArgs) (t : Ticket) (defaultLimit : Nat) (chain : List BlockNo) : Record where
  ticket := t
  lane := a.lane
  state := .queued
  urgent := a.urgent
  batchEnd := a.batchEnd
  replyWanted := a.replyWanted
  replyLimit := if a.replyWanted then some (a.replyLimit.getD defaultLimit) else none
  releaseTime := a.releaseTime
  payloadLength := a.payload.length
  sends := 0
  misses := 0
  busies := 0
  uncertain := false
  cancelMark := false
  cause := none
  rejectCode := none
  replyLength := 0
  completionTime := none
  payloadChain := chain
  payload := a.payload
  replyChain := []
  reply := []

/-- A refused SUBMIT carries ticket 0 (R33, R191). -/
def refuseSubmit (st : Status) : Reply := ⟨st, bytesOf 2 0⟩

/-- The record is created: payload chain allocated, ticket counter advanced, record live; a scan follows because
the held count rises (R5, R10, R25, R35). -/
def State.createRecord (a : SubmitArgs) (t : Ticket) (s : State) : State :=
  let need := blockCount a.payload.length
  let r := newRecord a t (s.lane a.lane).config.defaultReplyLimit (s.pool.free.take need)
  ((s.dropFree need).onTable fun m => { m with records := m.records ++ [r], counter := nextTicket t }).grantScan

/-- The record joins its lane's queue; the lane re-evaluates when the head has changed (R36, R48, R51). -/
def State.enqueue (a : SubmitArgs) (t : Ticket) (s : State) : State :=
  let s1 := s.insertNew a.lane t a.urgent
  if (s1.lane a.lane).queue.head? = some t then s1.headChanged a.lane else s1

/-- SUBMIT on the body (R33 to R36). A table without an issuable ticket cannot come about below 128 records
(R25, log 20). -/
def runSubmit (body : List Byte) (s : State) : Reply × State :=
  match submitArgs body with
  | .error e => (refuseSubmit e, s)
  | .ok a =>
    if Config.maxRecords ≤ s.table.records.length then (refuseSubmit .tableFull, s)
    else if (s.lane a.lane).config.cap < s.held a.lane + blockCount a.payload.length then (refuseSubmit .laneCap, s)
    else if s.freeCount < s.protectedSum + blockCount a.payload.length then (refuseSubmit .poolFull, s)
    else match s.table.issue with
      | none => (refuseSubmit .tableFull, s)
      | some t => (.ok (bytesOf 2 t), (s.createRecord a t).enqueue a t)

/-- A QUEUED record is cancelled at once (R37). Where it is the head of a lane in WAIT_SPACE, the freed payload and
the change of the entry are one change with one scan (R9, R13, R14; log 11). -/
def State.cancelQueued (r : Record) (s : State) : State :=
  let s1 := (s.endRecord r.ticket .cancelled .byHost none).onLane r.lane fun x =>
    { x with queue := x.queue.erase r.ticket }
  if (s.lane r.lane).queue.head? = some r.ticket then
    if (s.lane r.lane).phase = .waitSpace then s1.headChanged r.lane
    else s1.grantScan.headChanged r.lane
  else s1.grantScan

/-- An ACTIVE record is marked; between attempts its lane ends it at once (R38, R88). -/
def State.markActive (r : Record) (s : State) : State :=
  let s1 := s.onRecord r.ticket fun x => { x with cancelMark := true }
  match (s.lane r.lane).phase with
  | .waitSlot | .backoff => s1.cancelActive r.lane r.ticket r.uncertain
  | _ => s1

/-- CANCEL on the body (R37 to R39). -/
def runCancel (body : List Byte) (s : State) : Reply × State :=
  match ticketArgs body with
  | .error e => (.refuse e, s)
  | .ok t =>
    match s.record? t with
    | none => (.refuse .noSuchTicket, s)
    | some r =>
      match r.state with
      | .queued => (.ok [CancelResult.cancelled.code], s.cancelQueued r)
      | .active => (.ok [CancelResult.marked.code], s.markActive r)
      | .done | .failed | .cancelled => (.ok [CancelResult.tooLate.code], s)

/-- QUERY on the body (R40). -/
def runQuery (body : List Byte) (s : State) : Reply × State :=
  match ticketArgs body with
  | .error e => (.refuse e, s)
  | .ok t =>
    match s.record? t with
    | none => (.refuse .noSuchTicket, s)
    | some r => (.ok (s.queryContent r), s)

/-- The bytes that a REPLY_READ returns (R41). -/
def readBytes (r : Record) (offset count : Nat) : List Byte := ((r.reply.take r.replyLength).drop offset).take count

/-- REPLY_READ on the body (R41). -/
def runReplyRead (body : List Byte) (s : State) : Reply × State :=
  match replyReadArgs body with
  | .error e => (.refuse e, s)
  | .ok a =>
    match s.record? a.ticket with
    | none => (.refuse .noSuchTicket, s)
    | some r =>
      if r.state = .done ∧ r.replyWanted then
        if a.offset ≤ r.replyLength then
          let bytes := readBytes r a.offset a.count
          (.ok (bytesOf 2 bytes.length ++ bytes), s)
        else (.refuse .range, s)
      else (.refuse .noReply, s)

/-- COLLECT on the body (R42). -/
def runCollect (body : List Byte) (s : State) : Reply × State :=
  match collectArgs body with
  | .error e => (.refuse e, s)
  | .ok (filter, maximum) => (.ok (s.collectContent filter maximum), s)

/-- A terminal record leaves the completion list and the table, and its chain returns; a scan follows only when
blocks were returned (R18, R43). -/
def State.retireRecord (r : Record) (s : State) : State :=
  let s1 := (s.returnBlocks (r.payloadChain ++ r.replyChain)).onTable fun m =>
    { m with records := m.records.filter fun x => x.ticket != r.ticket, completion := m.completion.erase r.ticket }
  if r.blocks = 0 then s1 else s1.grantScan

/-- RETIRE on the body (R43). -/
def runRetire (body : List Byte) (s : State) : Reply × State :=
  match ticketArgs body with
  | .error e => (.refuse e, s)
  | .ok t =>
    match s.record? t with
    | none => (.refuse .noSuchTicket, s)
    | some r => if r.state.terminal then (.ok [], s.retireRecord r) else (.refuse .notFinished, s)

/-- REPORT_TAKE on the body (R143, R191). -/
def runReportTake (body : List Byte) (s : State) : Reply × State :=
  match laneArgs body with
  | .error e => (.refuse e, s)
  | .ok l =>
    match (s.lane l).holding with
    | [] => (.refuse .empty, s)
    | p :: rest =>
      (.ok (bytesOf 1 p.bytes.length ++ bytesOf 4 p.arrival.toNat ++ bytesOf 1 rest.length ++ p.bytes),
        s.onLane l fun x => { x with holding := rest })

/-- SUBMIT (R35). -/
def execSubmit (s : State) : Host.Outcome State Fault Refusal := .next (s.takeRequest .submit runSubmit)

/-- CANCEL (R37). -/
def execCancel (s : State) : Host.Outcome State Fault Refusal := .next (s.takeRequest .cancel runCancel)

/-- QUERY (R40). -/
def execQuery (s : State) : Host.Outcome State Fault Refusal := .next (s.takeRequest .query runQuery)

/-- REPLY_READ (R41). -/
def execReplyRead (s : State) : Host.Outcome State Fault Refusal := .next (s.takeRequest .replyRead runReplyRead)

/-- COLLECT (R42). -/
def execCollect (s : State) : Host.Outcome State Fault Refusal := .next (s.takeRequest .collect runCollect)

/-- RETIRE (R43). -/
def execRetire (s : State) : Host.Outcome State Fault Refusal := .next (s.takeRequest .retire runRetire)

/-- REPORT_TAKE (R143). -/
def execReportTake (s : State) : Host.Outcome State Fault Refusal := .next (s.takeRequest .reportTake runReportTake)

end Sys2Proof.Machine
end

