-- ==== Sys2Proof/Machine/PartRequests.lean ====
section
/-! DEFINITION. The requests that concern the part as a whole: IDENTIFY, PART_STATUS, PART_CONFIG, RESTART, and a
request whose code is none (R168, R178, R182 to R184). -/

namespace Sys2Proof.Machine

/-- IDENTIFY on the body (R182). -/
def runIdentify (body : List Byte) (s : State) : Reply × State :=
  match noArgs body with
  | .error e => (.refuse e, s)
  | .ok _ => (.ok identifyContent, s)

/-- PART_STATUS on the body: the figures are taken before the clear flag clears the two link counts (R183). -/
def runPartStatus (body : List Byte) (s : State) : Reply × State :=
  match partStatusArgs body with
  | .error e => (.refuse e, s)
  | .ok clear =>
    (.ok s.partStatusContent, if clear then s.onLink fun k => { k with damageCount := 0, dropCount := 0 } else s)

/-- What a new host-quiet limit does to the timer (R175). -/
def QuietTimer.withLimit (limit : Nat) (q : QuietTimer) : QuietTimer :=
  if limit = 0 then .off
  else match q with
    | .off => .stopped
    | .running n => .running n
    | .stopped => .stopped

/-- Writes the mask; entries of kinds it newly masks are removed (R152). An entry whose kind was masked before
cannot be pending, so what the new mask enables is what stays. -/
def NoticeUnit.setMask (mask : BitVec 16) (n : NoticeUnit) : NoticeUnit :=
  { n with mask := mask,
           entries := n.entries.filter fun e => enabled mask e.kind || !enabled n.mask e.kind }

/-- PART_CONFIG on the body (R184, R152, R175). -/
def runPartConfig (body : List Byte) (s : State) : Reply × State :=
  match partConfigArgs body with
  | .error e => (.refuse e, s)
  | .ok (mask, limit) =>
    (.ok [], (s.onNotices (NoticeUnit.setMask mask)).onLink fun k =>
      { k with quietLimit := limit, quietTimer := k.quietTimer.withLimit limit })

/-- RESTART on the body: the flag is set, nothing else changes (R178). -/
def runRestart (body : List Byte) (s : State) : Reply × State :=
  match noArgs body with
  | .error e => (.refuse e, s)
  | .ok _ => (.ok [], { s with restartPending := true })

/-- A request whose first byte is no request code (R168 step 2). -/
def runUnknown (_body : List Byte) (s : State) : Reply × State := (.refuse .unknownRequest, s)

/-- IDENTIFY (R182). -/
def execIdentify (s : State) : Host.Outcome State Fault Refusal := .next (s.takeRequest .identify runIdentify)

/-- PART_STATUS (R183). -/
def execPartStatus (s : State) : Host.Outcome State Fault Refusal := .next (s.takeRequest .partStatus runPartStatus)

/-- PART_CONFIG (R184). -/
def execPartConfig (s : State) : Host.Outcome State Fault Refusal := .next (s.takeRequest .partConfig runPartConfig)

/-- RESTART (R178). -/
def execRestart (s : State) : Host.Outcome State Fault Refusal := .next (s.takeRequest .restart runRestart)

/-- UNKNOWN_REQUEST (R168). -/
def execUnknownRequest (s : State) : Host.Outcome State Fault Refusal := .next (s.takeRequest .unknown runUnknown)

end Sys2Proof.Machine
end

