-- ==== Sys2Proof/Machine/Resets.lean ====
section
/-! DEFINITION. The two resets of the whole part: PIN_RESET (R181) and RESTART_RESET (R179, R180). -/

namespace Sys2Proof.Machine

/-- RESTART_RESET: the last character of the RESTART response has been sent and the reset takes effect (R179, R180). It is
that moment, with the pins as they stand then; CONTROL_FRAME_SENT and LINK_BREAK take the same reset in their one step,
with the pins as last sampled (log 8). -/
def execRestartReset (pins : PinLevels) (s : State) : Host.Outcome State Fault Refusal :=
  .next (if s.restartDue then s.restartReset pins else s)

/-- What RESET_N does to the part: low holds every block in its reset state; high starts the part, with the pins
sampled then (R157, R158, R181; log 21). -/
def State.pinReset (low : Bool) (pins : PinLevels) (s : State) : State :=
  if low then State.whileReset s.link.speed s.pending
  else State.afterReset .resetPin pins.straps pins.hrxLow s.pending

/-- PIN_RESET (R181). -/
def execPinReset (low : Bool) (pins : PinLevels) (s : State) : Host.Outcome State Fault Refusal :=
  .next (s.pinReset low pins)

end Sys2Proof.Machine
end

