-- ==== Sys2Proof/Machine/Tick.lean ====
section
/-! DEFINITION. The advance of part time (R98, R99, R101, R102, R104). Every timed step that is due is taken before
part time advances again (R54, R101, R105; log 4). -/

namespace Sys2Proof.Machine

/-- A paced lane's generator steps its accumulator; at D it earns a credit (R104). -/
def SlotGenerator.step (num den : Nat) (g : SlotGenerator) : SlotGenerator :=
  if num = 0 then g
  else if den ≤ g.accumulator + num then { g with accumulator := g.accumulator + num - den, due := true }
  else { g with accumulator := g.accumulator + num }

/-- A running timer counts the advance (R101). -/
def countDown (timer : Option Nat) : Option Nat := timer.map fun n => n - 1

/-- The gap measurement of a receiver within a frame goes on, or begins anew at the last stop bit (R116; log 9). -/
def Receiver.measure (d : DrxSample) : Receiver → Receiver
  | .header changed gap => .header changed (d.tail.getD (gap + d.lead))
  | .frame f => .frame { f with gap := d.tail.getD (f.gap + d.lead) }
  | r => r

/-- What an advance does to one lane (R99, R101, R104, R116). -/
def Lane.advance (d : DrxSample) (x : Lane) : Lane :=
  { x with ackTimer := countDown x.ackTimer, backoffTimer := countDown x.backoffTimer,
           slots := x.slots.step x.config.pacingNum x.config.pacingDen,
           port := { x.port with rx := x.port.rx.measure d,
                                 breakTimer := countDown x.port.breakTimer,
                                 recoveryTimer := countDown x.port.recoveryTimer } }

/-- The host-quiet timer counts the advance (R101). -/
def QuietTimer.advance : QuietTimer → QuietTimer
  | .running n => .running (n - 1)
  | q => q

/-- A watch counts the advances taken while its condition holds, from 0 when the condition begins (R101);
`restarted` says that it began anew since the last advance. -/
def watch (top : Nat) (holds restarted : Bool) (n : Nat) : Nat :=
  if holds then min top ((if restarted then 0 else n) + 1) else 0

/-- What an advance does to the control link (R101, R163, R170, R172; log 9). -/
def ControlLink.advance (p : TickSample) (k : ControlLink) : ControlLink :=
  { k with quietTimer := k.quietTimer.advance, straps := p.straps, hrxLow := p.hrx.low,
           lowSinceReset := k.lowSinceReset && !p.hrx.wasHigh,
           gapWatch := watch Config.gapWatchTicks (k.framer.inFrame && !p.hrx.charNow) p.hrx.charSeen k.gapWatch,
           breakWatch := watch Config.breakWatchTicks p.hrx.low p.hrx.wasHigh k.breakWatch }

/-- The advance itself: part time rises by 1, modulo 2^32, and everything that counts counts it (R98, R99). -/
def State.advance (p : TickSample) (s : State) : State :=
  { s with time := s.time + 1, lanes := Vector.zipWith Lane.advance p.drx s.lanes, link := s.link.advance p }

/-- The timed steps of one lane that are due (log 4). -/
def State.settleLane (l : LaneId) (s : State) : State :=
  (((((s.creditEarned l).ackExpiry l).backoffExpiry l).dropBreakEnd l).dropResetEnd l).releaseReached l

/-- HRX has returned high since the last advance: after a detected break this is LINK_RESET (R174). -/
def State.seeHrx (h : HrxSample) (s : State) : State := if h.wasHigh then s.linkReset else s

/-- All timed steps that are due, in the order log 4 gives: those of the last advance, lane by lane and then the link;
those that came about since, the return of HRX and the frames cut by a gap; and the frames that are ready (R77, R105). -/
def State.settle (p : TickSample) (s : State) : State :=
  let s1 := ((allLanes.foldl (fun s l => s.settleLane l) s).quietExpiry.controlGap.linkBreak).seeHrx p.hrx
  allLanes.foldl (fun s l => s.startFrame l) (allLanes.foldl (fun s l => s.gapCut l ⟨[], (p.drx.get l).lead⟩) s1)

/-- No timed step of a lane is due. -/
def State.laneSettled (s : State) (l : LaneId) : Bool :=
  !s.creditDue l && !s.ackDue l && !s.backoffDue l && !s.dropBreakDue l && !s.dropRecoveryDue l && !s.releaseDue l &&
  !s.startDue l

/-- No timed step of the part is due. -/
def State.settled (s : State) : Bool := allLanes.all s.laneSettled && !s.quietDue && !s.gapDue && !s.breakDue

/-- TICK (R98, R99). While RESET_N is low part time stands at 0 (R181). -/
def execTick (p : TickSample) (s : State) : Host.Outcome State Fault Refusal :=
  .next (if s.resetLow then s else (s.settle p).advance p)

end Sys2Proof.Machine
end

