-- ==== Sys2Proof/Machine/Dispatch.lean ====
section
/-! DEFINITION. The meaning of every command: one arm per row of the table. -/

namespace Sys2Proof.Machine

def exec (i : Instr) (s : State) : Host.Outcome State Fault Refusal :=
  match i with
  | .identify => Sys2Proof.Machine.execIdentify s
  | .partStatus => Sys2Proof.Machine.execPartStatus s
  | .partConfig => Sys2Proof.Machine.execPartConfig s
  | .restart => Sys2Proof.Machine.execRestart s
  | .laneConfig => Sys2Proof.Machine.execLaneConfig s
  | .laneModeHold => Sys2Proof.Machine.execLaneModeHold s
  | .laneModePass => Sys2Proof.Machine.execLaneModePass s
  | .laneModeHalt => Sys2Proof.Machine.execLaneModeHalt s
  | .laneStatus => Sys2Proof.Machine.execLaneStatus s
  | .laneFlush => Sys2Proof.Machine.execLaneFlush s
  | .laneReseqForce => Sys2Proof.Machine.execLaneReseqForce s
  | .laneReseqMark => Sys2Proof.Machine.execLaneReseqMark s
  | .dropReset => Sys2Proof.Machine.execDropReset s
  | .submit => Sys2Proof.Machine.execSubmit s
  | .cancel => Sys2Proof.Machine.execCancel s
  | .query => Sys2Proof.Machine.execQuery s
  | .replyRead => Sys2Proof.Machine.execReplyRead s
  | .collect => Sys2Proof.Machine.execCollect s
  | .retire => Sys2Proof.Machine.execRetire s
  | .reportTake => Sys2Proof.Machine.execReportTake s
  | .unknownRequest => Sys2Proof.Machine.execUnknownRequest s
  | .controlHeaderTaken lenHi lenLo => Sys2Proof.Machine.execControlHeaderTaken lenHi lenLo s
  | .controlFrameEnd chars => Sys2Proof.Machine.execControlFrameEnd chars s
  | .controlFrameGap => Sys2Proof.Machine.execControlFrameGap s
  | .linkBreak => Sys2Proof.Machine.execLinkBreak s
  | .linkReset => Sys2Proof.Machine.execLinkReset s
  | .hostQuietExpiry => Sys2Proof.Machine.execHostQuietExpiry s
  | .responseStart => Sys2Proof.Machine.execResponseStart s
  | .noticeStart => Sys2Proof.Machine.execNoticeStart s
  | .controlFrameSent => Sys2Proof.Machine.execControlFrameSent s
  | .restartReset pins => Sys2Proof.Machine.execRestartReset pins s
  | .pinReset low pins => Sys2Proof.Machine.execPinReset low pins s
  | .tick pins => Sys2Proof.Machine.execTick pins s
  | .slotCreditEarned lane => Sys2Proof.Machine.execSlotCreditEarned lane s
  | .releaseTimeReached lane => Sys2Proof.Machine.execReleaseTimeReached lane s
  | .transmissionStart lane => Sys2Proof.Machine.execTransmissionStart lane s
  | .dropFrameSent lane => Sys2Proof.Machine.execDropFrameSent lane s
  | .dropHeaderTaken lane control lenHi lenLo => Sys2Proof.Machine.execDropHeaderTaken lane control lenHi lenLo s
  | .dropGapCut lane cut => Sys2Proof.Machine.execDropGapCut lane cut s
  | .dropFrameEnd lane chars => Sys2Proof.Machine.execDropFrameEnd lane chars s
  | .ackTimeout lane => Sys2Proof.Machine.execAckTimeout lane s
  | .backoffExpiry lane => Sys2Proof.Machine.execBackoffExpiry lane s
  | .dropResetBreakEnd lane => Sys2Proof.Machine.execDropResetBreakEnd lane s
  | .dropResetEnd lane => Sys2Proof.Machine.execDropResetEnd lane s
  | .dropStartByte lane => Sys2Proof.Machine.execDropStartByte lane s
  | .controlStartByte => Sys2Proof.Machine.execControlStartByte s
  | .dropFramingFault lane taken => Sys2Proof.Machine.execDropFramingFault lane taken s

end Sys2Proof.Machine
end

