-- ==== Sys2Proof/Safety.lean ====
section
/-! DEFINITION. The laws of the part: what the rules say holds at every moment. Each is a decidable proposition on
one state; `Lawful` gathers those that hang together. The second half holds the terms in which the claims are
stated, written out field by field and byte by byte from the spec. -/

namespace Sys2Proof.Machine

/-- The intake queue and the response queue each contain at most 4 entries (R165). -/
abbrev QueuesBounded (s : State) : Prop :=
  s.link.intake.length ≤ Config.queueEntries ∧ s.link.responses.length ≤ Config.queueEntries

/-- Each lane's holding contains at most 2 reports (R139). -/
abbrev HoldingsBounded (s : State) : Prop := ∀ l : LaneId, (s.lane l).holding.length ≤ Config.reportsHeld

/-- The pair of lane and kind that an entry stands for (R150). -/
def NoticeEntry.key (n : NoticeEntry) : NoticeKind × Option LaneId := (n.kind, n.lane)

/-- At most one entry for each pair of lane and kind, counts 1..255, a lane exactly for the lane kinds, and no entry
of a masked kind (R148, R150, R152). -/
abbrev NoticesLawful (s : State) : Prop :=
  (s.notices.entries.map NoticeEntry.key).Nodup ∧
  ∀ n ∈ s.notices.entries, 1 ≤ n.count ∧ n.count ≤ 255 ∧ n.lane.isSome = n.kind.ofLane ∧
    enabled s.notices.mask n.kind = true

/-- A lane's configuration is in the ranges of R65; a paced lane's accumulator is below D and its credits lie
between 0 and burst; an unpaced lane has neither (R65, R103, R109). -/
abbrev Lane.generatorLawful (x : Lane) : Prop :=
  x.config.legal = true ∧
  if x.paced then x.slots.accumulator < x.config.pacingDen ∧ x.slots.credits ≤ x.config.burst
  else x.slots = ⟨0, 0, false⟩

/-- Every lane's Slot Generator and configuration (R65, R103, R109). -/
abbrev GeneratorsLawful (s : State) : Prop := ∀ l : LaneId, (s.lane l).generatorLawful

/-- At most 128 live records, no two share a ticket, tickets and counter lie in 1..65535 (R21, R25). -/
abbrev TicketsLawful (s : State) : Prop :=
  s.table.records.length ≤ Config.maxRecords ∧ (s.table.records.map Record.ticket).Nodup ∧
  (∀ r ∈ s.table.records, 1 ≤ r.ticket ∧ r.ticket ≤ 65535) ∧ 1 ≤ s.table.counter ∧ s.table.counter ≤ 65535

/-- All blocks of the part: the free set and the chains of the live records (R1). -/
def State.allBlocks (s : State) : List BlockNo :=
  s.pool.free ++ s.table.records.flatMap fun r => r.payloadChain ++ r.replyChain

/-- Every one of the 512 blocks is in exactly one of the free set, one payload chain and one reply chain (R1). -/
abbrev BlocksConserved (s : State) : Prop := s.allBlocks.Perm (List.range Config.poolBlocks)

/-- What R2 says of a record's chains, by its state. -/
abbrev Record.chainsLawful (r : Record) : Prop :=
  r.payloadChain.length = (match r.state with
    | .queued | .active => blockCount r.payloadLength
    | .done | .failed | .cancelled => 0) ∧
  r.replyChain.length = (match r.state with
    | .active => r.replyNeed
    | .done => blockCount r.replyLength
    | .queued | .failed | .cancelled => 0)

/-- Which fields of a record are present, by its state, and that its bytes have the lengths it records (R2, R22, R24,
R30, R34). -/
abbrev Record.fieldsLawful (r : Record) : Prop :=
  r.replyLimit.isSome = r.replyWanted ∧ r.replyLimit.getD 0 ≤ Config.maxPayload ∧
  r.payloadLength ≤ Config.maxPayload ∧
  r.completionTime.isSome = r.state.terminal ∧
  r.cause.isSome = (r.state == .failed || r.state == .cancelled) ∧
  r.rejectCode.isSome = (r.cause == some .rejected) ∧
  (r.replyLength ≠ 0 → r.state = .done ∧ r.replyWanted = true) ∧
  r.replyLength ≤ r.replyLimit.getD 0 ∧
  (r.state = .done → r.reply.length = r.replyLength) ∧
  (r.state = .queued ∨ r.state = .active → r.payload.length = r.payloadLength)

/-- Every record's chains and fields (R2, R22). -/
abbrev RecordsLawful (s : State) : Prop := ∀ r ∈ s.table.records, r.chainsLawful ∧ r.fieldsLawful

/-- The held count never exceeds the lane's cap (R4). -/
abbrev CapsKept (s : State) : Prop := ∀ l : LaneId, s.held l ≤ (s.lane l).config.cap

/-- Every QUEUED record appears exactly once, in the queue of its own lane; every entry is a QUEUED record of that
lane; URGENT entries come before NORMAL ones (R47). -/
abbrev LaneQueuesLawful (s : State) : Prop :=
  (∀ l : LaneId, (s.lane l).queue.Nodup) ∧
  (∀ r ∈ s.table.records, r.state = .queued → r.ticket ∈ (s.lane r.lane).queue) ∧
  (∀ l : LaneId, ∀ t ∈ (s.lane l).queue, ∃ r ∈ s.table.records, r.ticket = t ∧ r.lane = l ∧ r.state = .queued) ∧
  ∀ l : LaneId, (s.lane l).queue.Pairwise fun a b => s.isUrgent b = true → s.isUrgent a = true

/-- The completion list holds exactly the terminal records, each once (R31). -/
abbrev CompletionLawful (s : State) : Prop :=
  s.table.completion.Nodup ∧
  (∀ r ∈ s.table.records, r.state.terminal = true → r.ticket ∈ s.table.completion) ∧
  ∀ t ∈ s.table.completion, ∃ r ∈ s.table.records, r.ticket = t ∧ r.state.terminal = true

/-- The phases in which a lane has an active message (R74). -/
def Phase.carries : Phase → Bool
  | .waitSlot | .sending | .awaitAnswer | .backoff => true
  | .idle | .waitTime | .waitSpace | .resetting => false

/-- The receiver is within an expected frame (R123). -/
def Receiver.isExpected : Receiver → Bool
  | .frame f => f.answer == .expected
  | .hunting | .header _ _ | .discarding => false

/-- A frame in reception has a good header, and its class fits its kind (R117, R123). -/
def Receiver.frameLawful : Receiver → Bool
  | .frame f => headerGood f.control f.length &&
    match f.answer with
    | .expected | .unexpected => (nodeKind f.control).isAnswer
    | .report => nodeKind f.control == .report
  | .hunting | .header _ _ | .discarding => true

/-- The transmitter is sending a frame (R113). -/
def DropTx.isSending : DropTx → Bool
  | .sending _ => true
  | .idle | .breaking => false

/-- How a lane's mode, phase, active ticket, timers and Drop Port stand to each other (R74, R76, R79, R113, R117,
R123, R134). -/
abbrev Lane.phaseLawful (x : Lane) : Prop :=
  x.active.isSome = x.phase.carries ∧
  (x.mode = .halt → x.active = none) ∧
  (x.phase = .waitTime ∨ x.phase = .waitSpace → x.mode = .pass ∧ x.queue ≠ []) ∧
  (x.mode = .pass → x.phase = .idle → x.queue = []) ∧
  (x.ackTimer.isSome = true → x.phase = .awaitAnswer) ∧
  (x.backoffTimer.isSome = (x.phase == .backoff)) ∧
  (x.port.tx.isSending = (x.phase == .sending)) ∧
  x.port.rx.frameLawful = true ∧
  (x.port.rx.isExpected = true → x.phase = .awaitAnswer ∧ x.ackTimer = none) ∧
  (x.phase = .awaitAnswer → x.ackTimer.isSome = true ∨ x.port.rx.isExpected = true) ∧
  ((x.port.rx = .discarding) ↔ x.phase = .resetting) ∧
  ((x.port.tx = .breaking) ↔ x.port.breakTimer.isSome = true) ∧
  ((x.port.breakTimer.isSome || x.port.recoveryTimer.isSome) = (x.phase == .resetting)) ∧
  ¬(x.port.breakTimer.isSome = true ∧ x.port.recoveryTimer.isSome = true)

/-- The lanes' own state, and each lane's one ACTIVE record (R74). -/
abbrev LanesLawful (s : State) : Prop :=
  (∀ l : LaneId, (s.lane l).phaseLawful) ∧
  (∀ l : LaneId, ∀ t ∈ (s.lane l).active, ∃ r ∈ s.table.records, r.ticket = t ∧ r.lane = l ∧ r.state = .active) ∧
  ∀ r ∈ s.table.records, r.state = .active → (s.lane r.lane).active = some r.ticket

/-- The space waiting list holds at most one entry per lane, exactly the lanes in WAIT_SPACE, each with its head's
reply need, 1..16 (R8, R13). -/
abbrev WaitingLawful (s : State) : Prop :=
  (s.pool.waiting.map WaitEntry.lane).Nodup ∧
  (∀ l : LaneId, s.isWaiting l = ((s.lane l).phase == .waitSpace)) ∧
  ∀ e ∈ s.pool.waiting, 1 ≤ e.need ∧ e.need ≤ 16 ∧ (s.head? e.lane).map Record.replyNeed = some e.need

/-- The laws of records, blocks, queues and lanes together: R1, R2, R4, R8, R21, R22, R31, R47, R65, R74. -/
abbrev Lawful (s : State) : Prop :=
  TicketsLawful s ∧ BlocksConserved s ∧ RecordsLawful s ∧ CapsKept s ∧ LaneQueuesLawful s ∧ CompletionLawful s ∧
  LanesLawful s ∧ WaitingLawful s ∧ GeneratorsLawful s

/-- A run is safe while all laws of the part hold. -/
abbrev Safe (s : State) : Prop := Lawful s ∧ QueuesBounded s ∧ HoldingsBounded s ∧ NoticesLawful s

/-! ### Terms of the claims: requests and responses -/

/-- The three conditions of R167 hold, `q` is the oldest intake entry and `rest` stands behind it. -/
abbrev Taken (s : State) (q : Request) (rest : List Request) : Prop :=
  s.link.intake = q :: rest ∧ s.link.responses.length < 4 ∧ s.restartPending = false

/-- `s` with the given intake queue. -/
def State.taken (s : State) (rest : List Request) : State := { s with link := { s.link with intake := rest } }

/-- `s` with one more response at the tail of the response queue. -/
def State.appends (s : State) (tag : Byte) (body : List Byte) : State :=
  { s with link := { s.link with responses := s.link.responses ++ [⟨tag, body⟩] } }

/-- `s` after its oldest request has been taken and answered with this body and nothing else has changed. -/
def State.answered (s : State) (rest : List Request) (tag : Byte) (body : List Byte) : State :=
  (s.taken rest).appends tag body

/-- `s` with one lane replaced. -/
def State.withLane (s : State) (l : LaneId) (x : Lane) : State := { s with lanes := s.lanes.set l.val x }

/-- The command that executes a request with this body (R197). -/
def requestCommand (body : List Byte) : Instr :=
  match requestRow body with
  | .identify => .identify | .partStatus => .partStatus | .partConfig => .partConfig | .restart => .restart
  | .laneConfig => .laneConfig | .laneModeHold => .laneModeHold | .laneModePass => .laneModePass
  | .laneModeHalt => .laneModeHalt | .laneStatus => .laneStatus | .laneFlush => .laneFlush
  | .laneReseqForce => .laneReseqForce | .laneReseqMark => .laneReseqMark | .dropReset => .dropReset
  | .submit => .submit | .cancel => .cancel | .query => .query | .replyRead => .replyRead
  | .collect => .collect | .retire => .retire | .reportTake => .reportTake | .unknown => .unknownRequest

/-- The commands that execute a request. -/
def requestCommands : List Instr :=
  [.identify, .partStatus, .partConfig, .restart, .laneConfig, .laneModeHold, .laneModePass, .laneModeHalt,
   .laneStatus, .laneFlush, .laneReseqForce, .laneReseqMark, .dropReset, .submit, .cancel, .query, .replyRead,
   .collect, .retire, .reportTake, .unknownRequest]

/-- The request codes of R197. -/
def requestCodes : List Byte :=
  [0x01, 0x02, 0x03, 0x04, 0x10, 0x11, 0x12, 0x13, 0x14, 0x15, 0x20, 0x21, 0x22, 0x23, 0x24, 0x25, 0x30]

/-- The request body lengths of R187, but for SUBMIT. -/
def bodyLengths : List (Byte × Nat) :=
  [(0x01, 1), (0x02, 2), (0x03, 5), (0x04, 1), (0x10, 21), (0x11, 3), (0x12, 3), (0x13, 2), (0x14, 4), (0x15, 2),
   (0x21, 3), (0x22, 3), (0x23, 7), (0x24, 3), (0x25, 3), (0x30, 2)]

/-- The length judgement of a SUBMIT body, from the table of R189. -/
def submitLengthOk (body : List Byte) : Bool :=
  match body with
  | _ :: _ :: flags :: _ =>
    let o := 3 + (if flags.getLsbD 3 then 4 else 0) + (if flags.getLsbD 4 then 2 else 0)
    decide (o + 2 ≤ body.length) && body.length == o + 2 + natOf ((body.drop o).take 2)
  | _ => false

/-- The length judgement of every request body whose first byte is a request code (R187, R189). -/
def lengthOk (body : List Byte) : Bool :=
  if body.headD 0 = 0x20#8 then submitLengthOk body else bodyLengths.contains (body.headD 0, body.length)

/-- The bullets of R190, read at the offsets of R188 as numbers. -/
def badArgument (body : List Byte) : Bool :=
  let b (i : Nat) : Nat := (body.getD i 0).toNat
  let w (i : Nat) : Nat := b i * 256 + b (i + 1)
  match b 0 with
  | 0x02 => 2 ≤ b 1
  | 0x03 => (w 1 / 256) % 2 = 0 || 0x1000 ≤ w 1 || (1 ≤ w 3 && w 3 ≤ 9) || 60000 < w 3
  | 0x10 => 8 ≤ b 1 || 7 < b 2 || w 5 < w 3 || w 5 = 0 || b 7 = 0 || 8 < b 7 || w 8 = 0 || 1000 < w 8 ||
      w 10 = 0 || 1000 < w 10 || 15 < b 12 || 1 < b 14 || 512 < w 15 || 512 < w 17
  | 0x11 => 8 ≤ b 1 || 2 < b 2
  | 0x12 => 8 ≤ b 1 || 2 ≤ b 2
  | 0x13 | 0x15 | 0x30 => 8 ≤ b 1
  | 0x14 => 8 ≤ b 1 || b 2 = 0 || 2 < b 2 || (b 2 = 1 && 1 < b 3) || (b 2 = 2 && b 3 ≠ 0)
  | 0x20 =>
    let o := 3 + (if 8 ≤ b 2 % 16 then 4 else 0)
    let limited : Bool := 16 ≤ b 2 % 32
    let p := if limited then o + 2 else o
    8 ≤ b 1 || 32 ≤ b 2 || (limited && (b 2 % 8 < 4 || 512 < w o)) || 512 < w p
  | 0x21 | 0x22 | 0x25 => w 1 = 0
  | 0x23 => w 1 = 0 || w 5 = 0 || 256 < w 5
  | 0x24 => (8 ≤ b 1 && b 1 ≠ 255) || b 2 = 0 || 64 < b 2
  | _ => false

/-- The body of a refusal (R169, R191): the echoed code and the status, and ticket 0 after a refused SUBMIT. -/
def refusal (body : List Byte) (status : Byte) : List Byte :=
  if body.headD 0 = 0x20#8 then [0x20, status, 0, 0] else [body.headD 0, status]

/-- The ranges of R34. -/
abbrev SubmitArgs.Legal (a : SubmitArgs) : Prop :=
  (a.replyLimit.isSome = true → a.replyWanted = true) ∧ a.replyLimit.getD 0 ≤ 512 ∧ a.payload.length ≤ 512

/-- The body of a SUBMIT by R188 and R189. -/
def submitBody (a : SubmitArgs) : List Byte :=
  let flags := a.urgent.toNat + 2 * a.batchEnd.toNat + 4 * a.replyWanted.toNat + 8 * a.releaseTime.isSome.toNat +
    16 * a.replyLimit.isSome.toNat
  [0x20, BitVec.ofNat 8 a.lane.val, BitVec.ofNat 8 flags] ++
  (match a.releaseTime with | some t => bytesOf 4 t.toNat | none => []) ++
  (match a.replyLimit with | some n => bytesOf 2 n | none => []) ++
  bytesOf 2 a.payload.length ++ a.payload

/-- Commands executed one after the other. -/
def runAll : List Instr → State → Host.Outcome State Fault Refusal
  | [], s => .next s
  | c :: rest, s =>
    match exec c s with
    | .next t => runAll rest t
    | .fault f => .fault f
    | .refused r => .refused r

/-! ### Terms of the claims: the part's blocks -/

/-- What every block but the notice list holds in its reset state, with the given link speed code (R19, R45, R64, R97,
R98, R110, R113, R146, R158, R180); the level of HRX, `ready` and `busyCount` are left out. -/
abbrev ResetBlocks (speed : BitVec 2) (t : State) : Prop :=
  t.time = 0 ∧ t.pool.free.Perm (List.range 512) ∧ t.pool.waiting = [] ∧ t.table = ⟨[], 1, []⟩ ∧
  (∀ l : LaneId, { t.lane l with ready := .data, busyCount := 0 } =
    { config := ⟨3, 0, 1, 1, 20, 5, 3, 50, .halt, 64, 64, 0⟩, queue := [], mode := .hold, phase := .idle,
      active := none, seq := false, resync := true, quotaLeft := 0, ackTimer := none, backoffTimer := none,
      ready := .data, busyCount := 0, slots := ⟨0, 0, false⟩, counters := ⟨0, 0, 0, 0, 0, 0, 0⟩,
      port := ⟨.idle, .hunting, none, none⟩, holding := [] }) ∧
  t.notices.mask = 0x0FFF#16 ∧ t.notices.number = 0 ∧
  { t.link with hrxLow := false, lowSinceReset := false } =
    { framer := .hunting, gapWatch := 0, breakWatch := 0, breakDetected := false, straps := speed, hrxLow := false,
      lowSinceReset := false, intake := [], responses := [], tx := .free, speed := speed, quietLimit := 0,
      quietTimer := .off, damageCount := 0, dropCount := 0 } ∧
  t.restartPending = false

/-- What a reset with the given cause and straps leaves (R157, R158, R180, R181). -/
abbrev ResetState (c : ResetCause) (straps : BitVec 2) (t : State) : Prop :=
  ResetBlocks straps t ∧ t.notices.entries = [⟨.started, none, 1, 0, .reset c, none, 0⟩] ∧ t.resetLow = false

/-- `s` after a good request frame (R165, R166, R175). -/
def State.goodFrame (s : State) (tag : Byte) (body : List Byte) : State :=
  let k : ControlLink :=
    { s.link with framer := .hunting, gapWatch := 0,
                  quietTimer := if s.link.quietLimit = 0 then .off else .running (100 * s.link.quietLimit) }
  if s.link.intake.length < 4 then { s with link := { k with intake := s.link.intake ++ [⟨tag, body⟩] } }
  else
    { s with link := { k with dropCount := min 65535 (s.link.dropCount + 1) },
             notices := s.notices.take ⟨.intakeDrop, none, 0, .tag tag, none⟩ s.time }

/-- `s` after a control frame judged damaged (R164). -/
def State.badFrame (s : State) (why : DamageReason) : State :=
  { s with link := { s.link with framer := .hunting, gapWatch := 0,
                                 damageCount := min 65535 (s.link.damageCount + 1) },
           notices := s.notices.take ⟨.linkDamage, none, 0, .damage why, none⟩ s.time }

/-- `s` after its record `t` has become terminal: blocks `back` returned, the record rewritten by `f`, the ticket at
the tail of the completion list (R15, R16, R29). -/
def State.ended (s : State) (t : Ticket) (back : List BlockNo) (f : Record → Record) : State :=
  { s with pool := { s.pool with free := s.pool.free ++ back },
           table := { s.table with records := s.table.records.map (fun r => if r.ticket = t then f r else r),
                                   completion := s.table.completion ++ [t] } }

/-- A record FAILED or CANCELLED at `time`: state, cause, reject code and completion time written, no blocks left
(R16, R29, R30). -/
def Record.finish (st : RecordState) (cause : Cause) (reject : Option Byte) (time : PartTime) (r : Record) : Record :=
  { r with state := st, cause := some cause, rejectCode := reject, completionTime := some time,
           payloadChain := [], payload := [], replyChain := [], reply := [] }

/-- `s` after the head `r` of lane `l` has become ACTIVE with its first `n` free blocks reserved (R27, R76). -/
def State.activated (s : State) (l : LaneId) (r : Record) (n : Nat) : State :=
  { s with
      pool := { s.pool with free := s.pool.free.drop n }
      table := { s.table with records := s.table.records.map fun x =>
        if x.ticket = r.ticket then
          { x with state := .active, misses := 0, busies := 0, uncertain := false,
                   replyChain := x.replyChain ++ s.pool.free.take n }
        else x }
      lanes := s.lanes.set l.val
        { s.lane l with queue := (s.lane l).queue.erase r.ticket, active := some r.ticket, phase := .waitSlot,
                        ready := .data, busyCount := 0 } }

/-- `s`, whose lane `l` has just stopped being busy and stands in IDLE: in PASS it judges its head, otherwise it raises
IDLE with ticket `t` (R75). -/
def State.comesToRest (s : State) (l : LaneId) (t : Ticket) : State :=
  if (s.lane l).mode = .pass then s.judgeHead l else s.raise ⟨.idle, some l, t, .none, none⟩

/-- `s` after the active record `r` of lane `l`, ticket `t`, has become FAILED; `unsure` is its uncertain at the end and
`halts` says that the lane halts itself (R16, R29, R86, R87). -/
def State.failedWith (s : State) (l : LaneId) (t : Ticket) (r : Record) (cause : Cause) (reject : Option Byte)
    (unsure halts : Bool) : State :=
  let u := (s.ended t (r.payloadChain ++ r.replyChain) (Record.finish .failed cause reject s.time)).grantScan
  let x := u.lane l
  let v := (u.withLane l
    { x with resync := x.resync || unsure, mode := if halts then .halt else x.mode, active := none, phase := .idle
             counters := { x.counters with failed := min 65535 (x.counters.failed + 1) } }).raise
    ⟨.failed, some l, t, .cause cause, reject⟩
  (if halts then v.raise ⟨.halted, some l, t, .cause cause, reject⟩ else v).comesToRest l t

/-- `s` after the active record `r` of lane `l`, ticket `t`, has become CANCELLED by its mark; `unsure` is its uncertain
at the end (R16, R29, R86, R88, R89). -/
def State.cancelledBy (s : State) (l : LaneId) (t : Ticket) (r : Record) (unsure : Bool) : State :=
  let u := (s.ended t (r.payloadChain ++ r.replyChain) (Record.finish .cancelled .byHost none s.time)).grantScan
  let x := u.lane l
  (u.withLane l { x with resync := x.resync || unsure, backoffTimer := none, active := none, phase := .idle }).comesToRest l t

/-- `s` after a miss of the active record `r` of lane `l`, ticket `t`, with `ready` for a retransmission (R85, R87, R89,
R129). -/
def State.missed (s : State) (l : LaneId) (t : Ticket) (r : Record) (ready : FrameKind) : State :=
  let x := s.lane l
  let counted : State := { s.withLane l
      { x with counters := { x.counters with missesTotal := min 65535 (x.counters.missesTotal + 1) } } with
    table := { s.table with records := s.table.records.map fun y =>
      if y.ticket = t then { y with misses := min 255 (y.misses + 1), uncertain := true } else y } }
  if r.cancelMark then counted.cancelledBy l t r true
  else if x.config.retryLimit < min 255 (r.misses + 1) then
    counted.failedWith l t r .noAnswer none true (x.config.failurePolicy == .halt)
  else counted.withLane l { counted.lane l with phase := .waitSlot, ready := ready }

/-- The drop line rate of each line_rate code in bit/s (R112). -/
def dropRate (code : Nat) : Nat := [9600, 19200, 57600, 115200, 250000, 500000, 1000000, 2000000].getD code 0

/-- The control link rate of each link speed code in bit/s (R160). -/
def hostRate (code : Nat) : Nat := [115200, 460800, 1000000, 3000000].getD code 0

/-- Levels over time that send `frame` at `rate` bit/s: in bit time `j` of character `i`, ten bit times to a character, low
in the first, the data bits least significant first, high in the last; and high after the frame (R112, R160). `level` takes
periods of the 24 MHz clock. -/
abbrev SendsFrame (rate : Nat) (frame : List Byte) (level : Nat → Bool) : Prop :=
  (∀ (i j periods : Nat) (b : Byte), frame[i]? = some b → j < 10 → (10 * i + j) * 24000000 ≤ periods * rate →
    periods * rate < (10 * i + j + 1) * 24000000 →
    level periods = if j = 0 then false else if j = 9 then true else b.getLsbD (j - 1)) ∧
  ∀ periods, 10 * frame.length * 24000000 ≤ periods * rate → level periods = true

/-- What one advance does to the gap measurement of a receiver (R113, R116). -/
def Receiver.ticked (d : DrxSample) : Receiver → Receiver
  | .header changed gap => .header changed (match d.tail with | some n => n | none => gap + d.lead)
  | .frame f => .frame { f with gap := match d.tail with | some n => n | none => f.gap + d.lead }
  | .hunting => .hunting
  | .discarding => .discarding

/-- The timed steps that one advance finds due, as commands in the order that log 4 gives. -/
def tickCommands (p : TickSample) : List Instr :=
  allLanes.flatMap (fun l => [.slotCreditEarned l, .ackTimeout l, .backoffExpiry l, .dropResetBreakEnd l, .dropResetEnd l,
    .releaseTimeReached l]) ++
  [.hostQuietExpiry, .controlFrameGap, .linkBreak] ++ (if p.hrx.wasHigh then [.linkReset] else []) ++
  allLanes.map (fun l => .dropGapCut l ⟨[], (p.drx.get l).lead⟩) ++ allLanes.map .transmissionStart

/-- What one advance does to a lane (R101, R104, R116). -/
def Lane.ticked (d : DrxSample) (x : Lane) : Lane :=
  { x with
      ackTimer := x.ackTimer.map (· - 1), backoffTimer := x.backoffTimer.map (· - 1)
      slots :=
        if x.config.pacingNum = 0 then x.slots
        else if x.slots.accumulator + x.config.pacingNum < x.config.pacingDen then
          { x.slots with accumulator := x.slots.accumulator + x.config.pacingNum }
        else { x.slots with accumulator := x.slots.accumulator + x.config.pacingNum - x.config.pacingDen, due := true }
      port := { x.port with rx := x.port.rx.ticked d
                            breakTimer := x.port.breakTimer.map (· - 1),
                            recoveryTimer := x.port.recoveryTimer.map (· - 1) } }

/-- The framer is between the start byte and the end of a frame (R162). -/
def Framer.midFrame : Framer → Bool
  | .header | .frame _ _ _ _ => true
  | .hunting | .stopped => false

/-- What one advance does to the control link (R101, R163, R170, R172). -/
def ControlLink.ticked (p : TickSample) (k : ControlLink) : ControlLink :=
  { k with
      quietTimer := match k.quietTimer with | .running n => .running (n - 1) | .off => .off | .stopped => .stopped
      straps := p.straps
      hrxLow := p.hrx.low
      lowSinceReset := k.lowSinceReset && !p.hrx.wasHigh
      gapWatch := if k.framer.midFrame && !p.hrx.charNow then min 500 (if p.hrx.charSeen then 1 else k.gapWatch + 1) else 0
      breakWatch := if p.hrx.low then min 100 (if p.hrx.wasHigh then 1 else k.breakWatch + 1) else 0 }

/-- What a host-quiet expiry does to a lane (R176, R71). -/
def Lane.quieted (x : Lane) : Lane :=
  if x.mode = .pass then
    { x with mode := .hold, phase := if x.phase = .waitTime ∨ x.phase = .waitSpace then .idle else x.phase }
  else x

end Sys2Proof.Machine
end

