-- ==== Sys2Proof/Certificates/Slice0/Obligations.lean ====
section
/-! DEFINITION. The statements for the provers, about the machine behind `Sys2Proof.core`. Each docstring names the
rules it formalises and, where one is used, the log entry (notes/assumptions) of a choice that is the model's own.
"Nothing else" is said by giving the whole next state. -/

open Sys2Proof Sys2Proof.Machine

/-! ### The machine as a whole -/

/-- Log 1, log 3: a step executes the command at the front of the queue with the rest of the queue, and idles when no
command waits. The model's own frame. -/
def Obligations.StepTakesTheFrontCommand : Prop :=
  ∀ s : State,
    (s.pending = [] → step s = .next s) ∧
    ∀ c rest, s.pending = c :: rest → step s = exec c { s with pending := rest }

/-- Every command completes in every state, and none reaches the queue of waiting commands (the part has no condition
that stops it: R118, R164, R168; the queue is log 1). -/
def Obligations.EveryCommandCompletesAndKeepsTheQueue : Prop :=
  ∀ (c : Instr) (s : State), ∃ t, exec c s = .next t ∧ t.pending = s.pending

/-- R167: a request is executed only when the processor may take it, and only by the command of its own row; until then
the request commands change nothing (that they change nothing is log 2, the rows are log 6). -/
def Obligations.RequestsWaitForTheProcessor : Prop :=
  ∀ (s : State) (c : Instr), c ∈ requestCommands →
    (∀ q rest, Taken s q rest → requestCommand q.body ≠ c) → exec c s = .next s

/-! ### Resets -/

/-- R181 with R19, R45, R64, R97, R98, R110, R112, R113, R146, R157, R158, R160 and the table of R180. When RESET_N goes high, from
any state, every block stands in its reset state, the straps are sampled, HRX stands as given and STARTED is the one entry. While
RESET_N is low every block stands in its reset state, part time is 0, every output is high, and no command but the one that raises
RESET_N changes anything. That RESET_N going high needs no low command before it, and that the link speed code keeps its value
while RESET_N is low, is log 21; the queue of commands is log 16, that a command then changes nothing is log 2, and the frame ready
and the BUSY count, which ResetBlocks leaves out, are log 23. -/
def Obligations.PinResetLeavesTheResetState : Prop :=
  ∀ s : State,
    (∀ (straps : BitVec 2) (low : Bool), ∃ t, exec (.pinReset false ⟨straps, low⟩) s = .next t ∧
      ResetState .resetPin straps t ∧ t.link.hrxLow = low ∧ t.link.lowSinceReset = low ∧
      t.attnLow = true ∧ t.freeCount = 512 ∧ (∀ l, t.held l = 0) ∧ t.pending = s.pending) ∧
    ∀ pins, ∃ t, exec (.pinReset true pins) s = .next t ∧ ResetBlocks s.link.speed t ∧ t.notices.entries = [] ∧ t.resetLow = true ∧
      t.attnLow = false ∧ (∀ periods, t.htxHigh periods = true ∧ ∀ l, t.dtxHigh l periods = true) ∧ t.pending = s.pending ∧
      ∀ c, (∀ pins, c ≠ .pinReset false pins) → exec c t = .next t

/-- R179, R180: the reset of a RESTART comes with the end of its response, the last response the part sends, and not before;
RESTART_RESET spells that moment, with the pins as they stand then (log 8). CONTROL_FRAME_SENT and LINK_BREAK take the same
reset in their own step (ResponseStartSendsTheOldest, LinkBreakEmptiesAndItsEndFreesTheLink). The queue of commands outlives the
reset (log 16). Out of turn a command changes nothing (log 2). -/
def Obligations.RestartResetWaitsForItsResponse : Prop :=
  ∀ (s : State) (straps : BitVec 2) (low : Bool),
    (s.restartPending = true → s.link.responses = [] →
      ∃ t, exec (.restartReset ⟨straps, low⟩) s = .next t ∧ ResetState .restart straps t ∧
        t.link.hrxLow = low ∧ t.link.lowSinceReset = low ∧ t.pending = s.pending) ∧
    (s.restartPending = false ∨ s.link.responses ≠ [] → exec (.restartReset ⟨straps, low⟩) s = .next s)

/-- The state after reset obeys every law of the part (R1, R2, R4, R8, R21, R31, R47, R74, R103, R139, R150, R165). -/
def Obligations.ResetStateIsSafe : Prop := Safe State.reset

/-! ### The control link, towards the part -/

/-- R162, R165, R166, R175, R185, R186: a request frame with any tag and any body of 1 to 558 bytes, laid out as chapter
10 says and given to the hunting framer character by character, is taken as exactly that tag and body. That the start byte shows HRX
high is log 9. -/
def Obligations.EveryRequestFrameIsReadBack : Prop :=
  ∀ (s : State) (tag : Byte) (body : List Byte),
    s.link.framer = .hunting → s.resetLow = false → 1 ≤ body.length → body.length ≤ 558 →
    let frame := controlFrame 0x51#8 tag body
    runAll [.controlStartByte, .controlHeaderTaken (frame.getD 1 0) (frame.getD 2 0), .controlFrameEnd (frame.drop 3)] s =
      .next (State.goodFrame { s with link := { s.link with hrxLow := false, lowSinceReset := false } } tag body)

/-- R162: the hunting framer takes the start byte, and then a length in 3..560; while RESET_N is low nothing is framed (R181). That
the start byte shows HRX high is log 9; out of turn neither command changes anything (log 2). -/
def Obligations.FramerTakesStartByteAndLength : Prop :=
  ∀ s : State,
    (s.link.framer = .hunting → s.resetLow = false → exec .controlStartByte s =
      .next { s with link := { s.link with framer := .header, gapWatch := 0, hrxLow := false, lowSinceReset := false } }) ∧
    (s.link.framer ≠ .hunting ∨ s.resetLow = true → exec .controlStartByte s = .next s) ∧
    ∀ hi lo : Byte,
      (s.link.framer = .header → 3 ≤ hi.toNat * 256 + lo.toNat → hi.toNat * 256 + lo.toNat ≤ 560 →
        exec (.controlHeaderTaken hi lo) s =
          .next { s with link := { s.link with framer := .frame hi lo 3 (crc16 [hi, lo]), gapWatch := 0 } }) ∧
      (s.link.framer ≠ .header → exec (.controlHeaderTaken hi lo) s = .next s)

/-- R162 step 3, R165, R166, R175: a frame that ends with a good check and the request kind joins the intake queue below 4
entries; at 4 it is dropped, counted and noticed. The host-quiet timer starts afresh in both cases. -/
def Obligations.GoodFrameEndHandsOnTheRequest : Prop :=
  ∀ (s : State) (hi lo : Byte) (n : Nat) (check : BitVec 16) (tag : Byte) (body : List Byte),
    s.link.framer = .frame hi lo n check → hi.toNat * 256 + lo.toNat = body.length + 2 →
    exec (.controlFrameEnd (0x51#8 :: tag :: body ++ checkBytes (crcMore check (0x51#8 :: tag :: body)))) s =
      .next (s.goodFrame tag body)

/-- R162, R163, R164: the four ways a control frame is damaged, each with its reason.
Out of turn a command changes nothing (log 2). -/
def Obligations.DamagedControlFramesAreCounted : Prop :=
  ∀ s : State,
    (∀ hi lo : Byte, s.link.framer = .header → (hi.toNat * 256 + lo.toNat < 3 ∨ 560 < hi.toNat * 256 + lo.toNat) →
      exec (.controlHeaderTaken hi lo) s = .next (s.badFrame .badLength)) ∧
    (∀ (hi lo : Byte) (n : Nat) (check : BitVec 16) (covered sent : List Byte),
      s.link.framer = .frame hi lo n check → covered.length = hi.toNat * 256 + lo.toNat → sent.length = 2 →
      sent ≠ checkBytes (crcMore check covered) →
      exec (.controlFrameEnd (covered ++ sent)) s = .next (s.badFrame .badCrc)) ∧
    (∀ (hi lo : Byte) (n : Nat) (check : BitVec 16) (kind tag : Byte) (body : List Byte),
      s.link.framer = .frame hi lo n check → hi.toNat * 256 + lo.toNat = body.length + 2 → kind ≠ 0x51#8 →
      exec (.controlFrameEnd (kind :: tag :: body ++ checkBytes (crcMore check (kind :: tag :: body)))) s =
        .next (s.badFrame .wrongKind)) ∧
    (s.link.framer.midFrame = true → 500 ≤ s.link.gapWatch → exec .controlFrameGap s = .next (s.badFrame .gap)) ∧
    (s.link.framer.midFrame = false ∨ s.link.gapWatch < 500 → exec .controlFrameGap s = .next s)

/-- R172, R174, R179, R180: a satisfied break watch empties both queues, drops the frame in reception, cuts the frame being sent and
holds the transmitter, and every other block keeps its state; with a RESTART pending its reset takes effect in the same step, with HRX
low. The return of HRX after a detected break frees the transmitter, lets the framer hunt and raises LINK_RESET. That the cut is
complete at once is log 15, that the straps are those last sampled is log 8, that the queue of commands outlives the reset is log 16.
Out of turn a command changes nothing (log 2). -/
def Obligations.LinkBreakEmptiesAndItsEndFreesTheLink : Prop :=
  ∀ s : State,
    (100 ≤ s.link.breakWatch → s.link.breakDetected = false → s.restartPending = false → exec .linkBreak s =
      .next { s with link := { s.link with framer := .stopped, gapWatch := 0, breakDetected := true, hrxLow := true,
                                           intake := [], responses := [], tx := .held } }) ∧
    (100 ≤ s.link.breakWatch → s.link.breakDetected = false → s.restartPending = true →
      ∃ t, exec .linkBreak s = .next t ∧ ResetState .restart s.link.straps t ∧ t.link.hrxLow = true ∧
        t.link.lowSinceReset = true ∧ t.pending = s.pending) ∧
    (s.link.breakWatch < 100 ∨ s.link.breakDetected = true → exec .linkBreak s = .next s) ∧
    (s.link.breakDetected = true → exec .linkReset s =
      .next { s with link := { s.link with framer := .hunting, gapWatch := 0, breakWatch := 0, breakDetected := false,
                                           hrxLow := false, lowSinceReset := false, tx := .free },
                     notices := s.notices.take ⟨.linkReset, none, 0, .none, none⟩ s.time }) ∧
    (s.link.breakDetected = false → exec .linkReset s = .next s)

/-- R176: the expiry holds every lane in PASS, empties the space waiting list of them and raises one HELD per lane; records,
blocks, queues, quotas, seq and credits stay. The ascending order of the HELD events is the model's choice (log 12).
Out of turn a command changes nothing (log 2). -/
def Obligations.HostQuietExpiryHoldsPassingLanes : Prop :=
  ∀ s : State,
    (s.link.quietTimer = .running 0 →
      (∀ e ∈ s.pool.waiting, (s.lane e.lane).mode = .pass ∧ (s.lane e.lane).phase = .waitSpace) →
      exec .hostQuietExpiry s =
        .next { s with
          link := { s.link with quietTimer := .stopped }
          lanes := s.lanes.map Lane.quieted
          pool := { s.pool with waiting := [] }
          notices := (List.finRange 8).foldl (fun u l =>
            if (s.lane l).mode = .pass then u.take ⟨.held, some l, 0, .held .quiet, none⟩ s.time else u) s.notices }) ∧
    (s.link.quietTimer ≠ .running 0 → exec .hostQuietExpiry s = .next s)

/-! ### The control link, towards the host -/

/-- R160, R169, R170, R171, R179, R180: the oldest response starts when the transmitter is free and HRX has not stayed low since the
reset, and leaves its queue; at the end of a frame the transmitter is free, and at the end of the RESTART response its reset takes
effect in the same step, with the pins as last sampled (log 8; the queue of commands is log 16). HTX carries the characters of
the frame being sent and is high otherwise. Out of turn a command changes nothing (log 2). -/
def Obligations.ResponseStartSendsTheOldest : Prop :=
  ∀ s : State,
    (∀ q rest, s.link.responses = q :: rest → s.link.tx = .free → s.link.lowSinceReset = false →
      exec .responseStart s =
        .next { s with link := { s.link with responses := rest,
                                             tx := .sendingResponse (controlFrame 0x52#8 q.tag q.body) } }) ∧
    (s.link.responses = [] ∨ s.link.tx ≠ .free ∨ s.link.lowSinceReset = true → exec .responseStart s = .next s) ∧
    (∀ f, s.link.tx = .sendingResponse f ∧ (s.restartPending = false ∨ s.link.responses ≠ []) ∨
        s.link.tx = .sendingNotice f →
      exec .controlFrameSent s = .next { s with link := { s.link with tx := .free } }) ∧
    (∀ f, s.link.tx = .sendingResponse f → s.restartPending = true → s.link.responses = [] →
      ∃ t, exec .controlFrameSent s = .next t ∧ ResetState .restart s.link.straps t ∧ t.link.hrxLow = s.link.hrxLow ∧
        t.link.lowSinceReset = s.link.hrxLow ∧ t.pending = s.pending) ∧
    (s.link.tx = .free ∨ s.link.tx = .held → exec .controlFrameSent s = .next s) ∧
    (∀ f, s.link.tx = .sendingResponse f ∨ s.link.tx = .sendingNotice f →
      SendsFrame (hostRate s.link.speed.toNat) f s.htxHigh) ∧
    (s.link.tx = .free ∨ s.link.tx = .held → ∀ periods, s.htxHigh periods = true)

/-- R154, R170, R194, R195: with no response queued, the oldest entry starts as a notice frame of twelve body bytes under
the notice number, leaves the list, and the number advances modulo 256; at the end of a RESTART response nothing starts before the
reset (R179, log 8). Out of turn a command changes nothing (log 2). -/
def Obligations.NoticeStartSendsTheOldestEntry : Prop :=
  ∀ s : State,
    (∀ n rest, s.notices.entries = n :: rest → s.link.responses = [] → s.link.tx = .free →
      s.link.lowSinceReset = false → s.restartPending = false →
      exec .noticeStart s =
        .next { s with
          notices := { s.notices with entries := rest, number := s.notices.number + 1 }
          link := { s.link with tx := .sendingNotice (controlFrame 0x53#8 s.notices.number
            ([n.kind.code, n.lane.elim 0xFF#8 (fun l => BitVec.ofNat 8 l.val), BitVec.ofNat 8 n.count,
              BitVec.ofNat 8 (n.ticket / 256), BitVec.ofNat 8 n.ticket, n.detail.code,
              if n.rejectCode.isSome then 1#8 else 0#8, n.rejectCode.getD 0#8] ++ bytesOf 4 n.time.toNat)) } }) ∧
    (s.notices.entries = [] ∨ s.link.responses ≠ [] ∨ s.link.tx ≠ .free ∨ s.link.lowSinceReset = true ∨
      s.restartPending = true → exec .noticeStart s = .next s)

/-! ### The Notice Unit -/

/-- R151: a masked event is discarded; a pending entry takes the event in its place; otherwise an entry with count 1 joins
the tail. -/
def Obligations.EventIsDiscardedMergedOrAppended : Prop :=
  ∀ (e : Event) (now : PartTime) (u : NoticeUnit),
    (u.mask.getLsbD e.kind.maskBit = false → u.take e now = u) ∧
    (u.mask.getLsbD e.kind.maskBit = true →
      (∀ older n younger, u.entries = older ++ n :: younger → n.kind = e.kind → n.lane = e.lane →
        (∀ m ∈ older ++ younger, ¬(m.kind = e.kind ∧ m.lane = e.lane)) → n.count ≤ 255 →
        u.take e now = { u with entries := older ++
          ⟨n.kind, n.lane, if n.count = 255 then 255 else n.count + 1, e.ticket, e.detail, e.rejectCode, now⟩ ::
          younger }) ∧
      ((∀ m ∈ u.entries, ¬(m.kind = e.kind ∧ m.lane = e.lane)) →
        u.take e now = { u with entries := u.entries ++ [⟨e.kind, e.lane, 1, e.ticket, e.detail, e.rejectCode, now⟩] }))

/-- R148, R149, R150, R152: one entry per lane and kind, counts in 1..255 and no entry of a masked kind, kept by every step
from every state that has it. -/
def Obligations.EveryStepKeepsTheNoticeLaws : Prop :=
  ∀ s t : State, NoticesLawful s → step s = .next t → NoticesLawful t

/-- R150: a notice list that obeys its law never exceeds 68 entries. -/
def Obligations.NoticeListNeverExceeds68Entries : Prop :=
  ∀ s : State, NoticesLawful s → s.notices.entries.length ≤ 68

/-! ### Requests to the part -/

/-- R182: IDENTIFY is refused with BAD_LENGTH when its body is longer than the code; otherwise it answers the fixed figures,
in every state, and changes nothing. -/
def Obligations.IdentifyAnswersTheFixedFigures : Prop :=
  ∀ (s : State) (tag : Byte) (rest : List Request),
    (Taken s ⟨tag, [0x01]⟩ rest → exec .identify s = .next (s.answered rest tag
      [0x01, 0x00, 0x57, 0xD8, 0x01, 8, 0x02, 0x00, 32, 128, 0x02, 0x00, 0x02, 0x00, 64, 2, 4, 4, 68, 0x01, 0x00, 64])) ∧
    ∀ x more, Taken s ⟨tag, 0x01 :: x :: more⟩ rest → exec .identify s = .next (s.answered rest tag [0x01, 0x02])

/-- R183, R191, R193: PART_STATUS reports the part field by field as it stands when it is executed; with the clear flag the
two link counts are then 0. -/
def Obligations.PartStatusReportsThenClears : Prop :=
  ∀ (s : State) (tag flags : Byte) (rest : List Request),
    Taken s ⟨tag, [0x02, flags]⟩ rest → flags.toNat ≤ 1 →
    exec .partStatus s =
      .next ((if flags = 1#8 then { s.taken rest with link := { s.link with intake := rest, damageCount := 0, dropCount := 0 } }
              else s.taken rest).appends tag
        ([0x02, 0x00] ++ bytesOf 2 s.pool.free.length ++ bytesOf 1 s.table.records.length ++
          bytesOf 1 s.table.completion.length ++ bytesOf 2 s.table.counter ++ bytesOf 4 s.time.toNat ++
          bytesOf 2 s.link.damageCount ++ bytesOf 2 s.link.dropCount ++ bytesOf 2 s.link.quietLimit ++
          [match s.link.quietTimer with | .off => 0#8 | .running _ => 1#8 | .stopped => 2#8] ++
          bytesOf 2 s.notices.mask.toNat ++ bytesOf 1 s.link.speed.toNat ++ bytesOf 1 s.pool.waiting.length ++
          s.pool.waiting.flatMap fun e => [BitVec.ofNat 8 e.lane.val, BitVec.ofNat 8 e.need]))

/-- R184: the two checks of PART_CONFIG in their order; an accepted one writes mask and limit in one step, removes the pending
entries of newly masked kinds (R152), and acts on the host-quiet timer by the new limit (R175). The premise on the list is R150's
law. -/
def Obligations.PartConfigWritesMaskAndLimit : Prop :=
  ∀ (s : State) (tag : Byte) (rest : List Request),
    (∀ args, Taken s ⟨tag, 0x03 :: args⟩ rest → args.length ≠ 4 →
      exec .partConfig s = .next (s.answered rest tag [0x03, 0x02])) ∧
    ∀ (mask : BitVec 16) (limit : Nat), Taken s ⟨tag, 0x03 :: bytesOf 2 mask.toNat ++ bytesOf 2 limit⟩ rest → limit < 65536 →
      (mask.getLsbD 8 = false ∨ 0x1000 ≤ mask.toNat ∨ 1 ≤ limit ∧ limit ≤ 9 ∨ 60000 < limit →
        exec .partConfig s = .next (s.answered rest tag [0x03, 0x03])) ∧
      (mask.getLsbD 8 = true → mask.toNat < 0x1000 → (limit = 0 ∨ 10 ≤ limit ∧ limit ≤ 60000) →
        (∀ n ∈ s.notices.entries, s.notices.mask.getLsbD n.kind.maskBit = true) →
        exec .partConfig s = .next (State.appends
          { s with
            notices := { s.notices with
              mask := mask, entries := s.notices.entries.filter fun n => mask.getLsbD n.kind.maskBit }
            link := { s.link with
              intake := rest, quietLimit := limit
              quietTimer :=
                if limit = 0 then .off
                else match s.link.quietTimer with | .off => .stopped | .running n => .running n | .stopped => .stopped } }
          tag [0x03, 0x00]))

/-- R178: an accepted RESTART builds its response and sets the restart-pending flag; a longer body is refused. -/
def Obligations.RestartSetsTheFlagAlone : Prop :=
  ∀ (s : State) (tag : Byte) (rest : List Request),
    (Taken s ⟨tag, [0x04]⟩ rest → exec .restart s =
      .next { s.answered rest tag [0x04, 0x00] with restartPending := true }) ∧
    ∀ x more, Taken s ⟨tag, 0x04 :: x :: more⟩ rest → exec .restart s = .next (s.answered rest tag [0x04, 0x02])

/-- R168 steps 1 and 2, R187, R189, R191: a body of the wrong length for its code is answered BAD_LENGTH and a body whose first
byte is no code UNKNOWN_REQUEST; nothing else changes. -/
def Obligations.WrongLengthAndUnknownCodeAreRefused : Prop :=
  ∀ (s : State) (tag code : Byte) (args : List Byte) (rest : List Request),
    Taken s ⟨tag, code :: args⟩ rest →
    (code ∈ requestCodes → lengthOk (code :: args) = false →
      exec (requestCommand (code :: args)) s = .next (s.answered rest tag (refusal (code :: args) 0x02))) ∧
    (code ∉ requestCodes → exec .unknownRequest s = .next (s.answered rest tag [code, 0x01]))

/-- R190: every value or bit that step 3 of the check order names is refused with BAD_ARGUMENT, whatever the other fields hold,
and nothing else changes. -/
def Obligations.EveryBadArgumentIsRefused : Prop :=
  ∀ (s : State) (tag : Byte) (body : List Byte) (rest : List Request),
    Taken s ⟨tag, body⟩ rest → body.headD 0 ∈ requestCodes → lengthOk body = true → badArgument body = true →
    exec (requestCommand body) s = .next (s.answered rest tag (refusal body 0x03))

/-! ### Requests to a lane -/

/-- R65, R66, R188: every configuration record in its ranges, written out as LANE_STATUS reports it, is read back whole by
LANE_CONFIG. -/
def Obligations.LaneConfigBodyIsReadBack : Prop :=
  ∀ (l : LaneId) (c : LaneConfig), c.legal = true → laneConfigArgs (0x10 :: BitVec.ofNat 8 l.val :: c.bytes) = .ok (l, c)

/-- R66 steps 3 and 4, R67, R108, R119: LANE_CONFIG on a lane in PASS or busy, with a cap below the held count, and accepted. The
mark on a frame in reception is log 14. -/
def Obligations.LaneConfigWritesTheRecord : Prop :=
  ∀ (s : State) (tag : Byte) (l : LaneId) (c : LaneConfig) (rest : List Request),
    Taken s ⟨tag, 0x10 :: BitVec.ofNat 8 l.val :: c.bytes⟩ rest → c.legal = true →
    ((s.lane l).mode = .pass ∨ (s.lane l).active.isSome = true ∨ (s.lane l).phase = .resetting →
      exec .laneConfig s = .next (s.answered rest tag [0x10, 0x04])) ∧
    ((s.lane l).mode ≠ .pass → (s.lane l).active = none → (s.lane l).phase ≠ .resetting →
      (c.cap < s.held l → exec .laneConfig s = .next (s.answered rest tag [0x10, 0x03])) ∧
      (s.held l ≤ c.cap → exec .laneConfig s = .next ((s.answered rest tag [0x10, 0x00]).withLane l
        { s.lane l with
          config := c, slots := ⟨0, 0, false⟩, quotaLeft := c.quota
          port := { (s.lane l).port with
            rx := if c.lineRate = (s.lane l).config.lineRate then (s.lane l).port.rx
                  else match (s.lane l).port.rx with
                    | .header _ gap => .header true gap
                    | .frame f => .frame { f with rateChanged := true }
                    | .hunting => .hunting
                    | .discarding => .discarding } })))

/-- R69, R71, R14: LANE_MODE to HOLD from each mode and, from PASS, in each phase. -/
def Obligations.LaneModeToHold : Prop :=
  ∀ (s : State) (tag : Byte) (l : LaneId) (rest : List Request),
    Taken s ⟨tag, [0x11, BitVec.ofNat 8 l.val, 0x00]⟩ rest →
    let ok := [0x11, 0x00, 0x00, 0x00, 0x00]
    ((s.lane l).mode = .hold → exec .laneModeHold s = .next (s.answered rest tag ok)) ∧
    ((s.lane l).mode = .halt →
      exec .laneModeHold s = .next ((s.answered rest tag ok).withLane l { s.lane l with mode := .hold })) ∧
    ((s.lane l).mode = .pass →
      ((s.lane l).phase = .waitTime → exec .laneModeHold s =
        .next ((s.answered rest tag ok).withLane l { s.lane l with mode := .hold, phase := .idle })) ∧
      ((s.lane l).phase = .waitSpace → exec .laneModeHold s =
        .next ((State.grantScan
          { (s.taken rest).withLane l { s.lane l with mode := .hold, phase := .idle } with
            pool := { s.pool with waiting := s.pool.waiting.filter fun e => e.lane != l } }).appends tag ok)) ∧
      ((s.lane l).phase ≠ .waitTime → (s.lane l).phase ≠ .waitSpace → exec .laneModeHold s =
        .next ((s.answered rest tag ok).withLane l { s.lane l with mode := .hold })))

/-- R58, R69, R70: LANE_MODE to PASS from each mode; from HOLD quota_left is loaded, and a lane that is not busy judges its
head. -/
def Obligations.LaneModeToPass : Prop :=
  ∀ (s : State) (tag : Byte) (l : LaneId) (rest : List Request),
    Taken s ⟨tag, [0x11, BitVec.ofNat 8 l.val, 0x01]⟩ rest →
    let ok := [0x11, 0x00, 0x01, 0x00, 0x00]
    let x := { s.lane l with mode := .pass, quotaLeft := (s.lane l).config.quota }
    ((s.lane l).mode = .halt → exec .laneModePass s = .next (s.answered rest tag [0x11, 0x05])) ∧
    ((s.lane l).mode = .pass → exec .laneModePass s = .next (s.answered rest tag ok)) ∧
    ((s.lane l).mode = .hold →
      ((s.lane l).active.isSome = true ∨ (s.lane l).phase = .resetting →
        exec .laneModePass s = .next ((s.answered rest tag ok).withLane l x)) ∧
      ((s.lane l).active = none → (s.lane l).phase ≠ .resetting →
        ((s.lane l).queue = [] →
          exec .laneModePass s = .next ((s.answered rest tag ok).withLane l { x with phase := .idle })) ∧
        ((s.lane l).queue ≠ [] →
          exec .laneModePass s = .next ((((s.taken rest).withLane l x).judgeHead l).appends tag ok))))

/-- R69, R72, R91, R92, R17, R28, R50: LANE_MODE to HALT. Without an active message the lane leaves its wait; with one it is
aborted at once: an unmarked record returns to the front of its class with its reservation freed, a marked one ends CANCELLED, and
IDLE is raised. That the cut is complete at once is log 15, the order in which blocks return is log 7, that bytes go with their
chain is log 22. -/
def Obligations.LaneModeToHaltAborts : Prop :=
  ∀ (s : State) (tag : Byte) (l : LaneId) (rest : List Request),
    Taken s ⟨tag, [0x11, BitVec.ofNat 8 l.val, 0x02]⟩ rest →
    let ok (t : Ticket) := [0x11, 0x00, 0x02] ++ bytesOf 2 t
    let x := s.lane l
    (x.mode = .halt → exec .laneModeHalt s = .next (s.answered rest tag (ok 0))) ∧
    (x.mode ≠ .halt → x.active = none →
      (x.phase = .waitTime → exec .laneModeHalt s =
        .next ((s.answered rest tag (ok 0)).withLane l { x with mode := .halt, phase := .idle })) ∧
      (x.phase = .waitSpace → exec .laneModeHalt s =
        .next ((State.grantScan { (s.taken rest).withLane l { x with mode := .halt, phase := .idle } with
          pool := { s.pool with waiting := s.pool.waiting.filter fun e => e.lane != l } }).appends tag (ok 0))) ∧
      (x.phase ≠ .waitTime → x.phase ≠ .waitSpace → exec .laneModeHalt s =
        .next ((s.answered rest tag (ok 0)).withLane l { x with mode := .halt }))) ∧
    ∀ t r urgents normals, x.mode ≠ .halt → x.active = some t → s.record? t = some r →
      x.queue = urgents ++ normals → (∀ a ∈ urgents, s.isUrgent a = true) → (∀ a ∈ normals.head?, s.isUrgent a = false) →
      let unsure := r.uncertain || decide (x.phase = .awaitAnswer)
      let cut : Lane :=
        { x with mode := .halt, ackTimer := none, backoffTimer := none
                 port := { x.port with tx := .idle, rx := match x.port.rx with
                   | .frame f => .frame { f with answer := if f.answer = .expected then .unexpected else f.answer }
                   | .hunting => .hunting
                   | .header c gap => .header c gap
                   | .discarding => .discarding } }
      let rested (u : State) : State := u.withLane l { u.lane l with active := none, phase := .idle }
      (r.cancelMark = false → exec .laneModeHalt s =
        .next (((rested (State.grantScan
          { (s.taken rest).withLane l
              { cut with queue := if r.urgent then t :: x.queue else urgents ++ t :: normals } with
            pool := { s.pool with free := s.pool.free ++ r.replyChain }
            table := { s.table with records := s.table.records.map fun y =>
              if y.ticket = t then { y with state := .queued, uncertain := unsure, replyChain := [], reply := [] } else y } })).raise
          ⟨.idle, some l, t, .none, none⟩).appends tag (ok t))) ∧
      (r.cancelMark = true → exec .laneModeHalt s =
        .next (((rested (State.grantScan (State.ended
          ((s.taken rest).withLane l { cut with resync := x.resync || unsure }) t (r.payloadChain ++ r.replyChain)
          fun y => Record.finish .cancelled .byHost none s.time { y with uncertain := unsure }))).raise
          ⟨.idle, some l, t, .none, none⟩).appends tag (ok t)))

/-- R96 with the layout of R191: a lane or a flag outside its range is refused; otherwise LANE_STATUS reports the lane field by
field as it stands, in 53 bytes, and with the clear flag the seven counters are then 0. -/
def Obligations.LaneStatusReportsThenClears : Prop :=
  (∀ (s : State) (tag lane flags : Byte) (rest : List Request), Taken s ⟨tag, [0x12, lane, flags]⟩ rest →
    (8 ≤ lane.toNat ∨ 2 ≤ flags.toNat) → exec .laneStatus s = .next (s.answered rest tag [0x12, 0x03])) ∧
  ∀ (s : State) (tag flags : Byte) (l : LaneId) (rest : List Request),
    Taken s ⟨tag, [0x12, BitVec.ofNat 8 l.val, flags]⟩ rest → flags.toNat ≤ 1 →
    let x := s.lane l
    let c := x.config
    let k := x.counters
    let body := [0x12, 0x00, BitVec.ofNat 8 l.val, x.mode.code, x.phase.code] ++ bytesOf 2 (x.active.getD 0) ++
      [BitVec.ofNat 8 (x.seq.toNat + 2 * x.resync.toNat), BitVec.ofNat 8 c.lineRate] ++ bytesOf 2 c.pacingNum ++
      bytesOf 2 c.pacingDen ++ [BitVec.ofNat 8 c.burst] ++ bytesOf 2 c.ackTimeout ++ bytesOf 2 c.busyBackoff ++
      [BitVec.ofNat 8 c.retryLimit, BitVec.ofNat 8 c.busyLimit, if c.failurePolicy = .halt then 0 else 1] ++
      bytesOf 2 c.defaultReplyLimit ++ bytesOf 2 c.cap ++ bytesOf 2 c.quota ++ bytesOf 2 x.quotaLeft ++
      [BitVec.ofNat 8 x.queue.length, BitVec.ofNat 8 (x.queue.countP s.isUrgent)] ++ bytesOf 2 (x.queue.headD 0) ++
      bytesOf 2 (s.held l) ++ [BitVec.ofNat 8 x.slots.credits, BitVec.ofNat 8 x.holding.length] ++
      bytesOf 4 k.delivered.toNat ++ bytesOf 2 k.failed ++ bytesOf 2 k.missesTotal ++ bytesOf 2 k.busiesTotal ++
      bytesOf 2 k.damagedFrames ++ bytesOf 2 k.strayFrames ++ bytesOf 2 k.reportOverruns
    body.length = 53 ∧
    exec .laneStatus s = .next
      (if flags = 1#8 then (s.answered rest tag body).withLane l { x with counters := ⟨0, 0, 0, 0, 0, 0, 0⟩ }
       else s.answered rest tag body)

/-- R55, R56, R14, R16, R31: a flush cancels every queued record in queue order, frees their payloads as one change with one
scan, and takes a waiting lane to IDLE; a flush of an empty queue changes nothing. The premises are the laws of R21 and R47. The order in
which blocks return is log 7, that bytes go with their chain is log 22. -/
def Obligations.LaneFlushCancelsTheQueue : Prop :=
  ∀ (s : State) (tag : Byte) (l : LaneId) (rest : List Request),
    Taken s ⟨tag, [0x13, BitVec.ofNat 8 l.val]⟩ rest →
    let x := s.lane l
    (x.queue = [] → exec .laneFlush s = .next (s.answered rest tag [0x13, 0x00, 0x00])) ∧
    (x.queue ≠ [] → TicketsLawful s → LaneQueuesLawful s →
      exec .laneFlush s = .next (State.appends (State.grantScan
        { (s.taken rest).withLane l
            { x with queue := [], phase := if x.phase = .waitTime ∨ x.phase = .waitSpace then .idle else x.phase } with
          pool := { free := s.pool.free ++ x.queue.flatMap fun t =>
                      ((s.record? t).map fun r => r.payloadChain ++ r.replyChain).getD []
                    waiting := if x.phase = .waitSpace then s.pool.waiting.filter fun e => e.lane != l else s.pool.waiting }
          table := { s.table with
            records := s.table.records.map fun r =>
              if r.ticket ∈ x.queue then Record.finish .cancelled .flushed none s.time r else r
            completion := s.table.completion ++ x.queue } })
        tag [0x13, 0x00, BitVec.ofNat 8 x.queue.length]))

/-- R137: the three checks of LANE_RESEQ in their order, and what FORCE and MARK do. Which of its two rows takes a malformed body is
log 6. -/
def Obligations.LaneReseqForcesOrMarks : Prop :=
  ∀ (s : State) (tag : Byte) (rest : List Request),
    (∀ args, Taken s ⟨tag, 0x14 :: args⟩ rest → args.length ≠ 3 →
      exec (requestCommand (0x14 :: args)) s = .next (s.answered rest tag [0x14, 0x02])) ∧
    (∀ lane action bit : Byte, Taken s ⟨tag, [0x14, lane, action, bit]⟩ rest →
      (8 ≤ lane.toNat ∨ (action ≠ 1#8 ∧ action ≠ 2#8) ∨ (action = 1#8 ∧ 1 < bit.toNat) ∨ (action = 2#8 ∧ bit ≠ 0#8)) →
      exec (requestCommand [0x14, lane, action, bit]) s = .next (s.answered rest tag [0x14, 0x03])) ∧
    ∀ (l : LaneId) (bit : Bool),
      let x := s.lane l
      let refused := x.mode = .pass ∨ x.active.isSome = true ∨ x.phase = .resetting
      (Taken s ⟨tag, [0x14, BitVec.ofNat 8 l.val, 0x01, BitVec.ofNat 8 bit.toNat]⟩ rest →
        (refused → exec .laneReseqForce s = .next (s.answered rest tag [0x14, 0x04])) ∧
        (¬refused → exec .laneReseqForce s =
          .next ((s.answered rest tag [0x14, 0x00, BitVec.ofNat 8 bit.toNat]).withLane l
            { x with seq := bit, resync := false }))) ∧
      (Taken s ⟨tag, [0x14, BitVec.ofNat 8 l.val, 0x02, 0x00]⟩ rest →
        (refused → exec .laneReseqMark s = .next (s.answered rest tag [0x14, 0x04])) ∧
        (¬refused → exec .laneReseqMark s =
          .next ((s.answered rest tag [0x14, 0x00, BitVec.ofNat 8 (2 + x.seq.toNat)]).withLane l { x with resync := true })))

/-- R133: the three checks of DROP_RESET in their order, and the reset it begins (R134's first moment). -/
def Obligations.DropResetBeginsTheBreak : Prop :=
  ∀ (s : State) (tag : Byte) (rest : List Request),
    (∀ args, Taken s ⟨tag, 0x15 :: args⟩ rest → args.length ≠ 1 →
      exec .dropReset s = .next (s.answered rest tag [0x15, 0x02])) ∧
    (∀ lane : Byte, Taken s ⟨tag, [0x15, lane]⟩ rest → 8 ≤ lane.toNat →
      exec .dropReset s = .next (s.answered rest tag [0x15, 0x03])) ∧
    ∀ l : LaneId, Taken s ⟨tag, [0x15, BitVec.ofNat 8 l.val]⟩ rest →
      let x := s.lane l
      let refused := x.mode = .pass ∨ x.active.isSome = true ∨ x.phase = .resetting
      (refused → exec .dropReset s = .next (s.answered rest tag [0x15, 0x04])) ∧
      (¬refused → exec .dropReset s = .next ((s.answered rest tag [0x15, 0x00]).withLane l
        { x with phase := .resetting, port := { x.port with tx := .breaking, rx := .discarding, breakTimer := some 200 } }))

/-! ### Messages -/

/-- R33 step 1, R34, R188, R189: every legal SUBMIT, written out with its optional fields in their places, is read back whole. -/
def Obligations.EverySubmitBodyIsReadBack : Prop :=
  ∀ a : SubmitArgs, a.Legal → submitArgs (submitBody a) = .ok a

/-- R33 steps 3 to 5, R5, R25: the resource checks of SUBMIT in their order; a refused SUBMIT carries ticket 0 and changes nothing. -/
def Obligations.SubmitIsRefusedInOrder : Prop :=
  ∀ (s : State) (tag : Byte) (a : SubmitArgs) (rest : List Request),
    Taken s ⟨tag, submitBody a⟩ rest → a.Legal →
    let need := (a.payload.length + 31) / 32
    (128 ≤ s.table.records.length → exec .submit s = .next (s.answered rest tag [0x20, 0x06, 0, 0])) ∧
    (s.table.records.length < 128 →
      ((s.lane a.lane).config.cap < s.held a.lane + need →
        exec .submit s = .next (s.answered rest tag [0x20, 0x08, 0, 0])) ∧
      (s.held a.lane + need ≤ (s.lane a.lane).config.cap →
        s.freeCount < need + ((s.pool.waiting.filter fun e =>
          decide (s.held e.lane + e.need ≤ (s.lane e.lane).config.cap)).map WaitEntry.need).sum →
        exec .submit s = .next (s.answered rest tag [0x20, 0x07, 0, 0])))

/-- R5, R35, R36, R48, R51: an accepted SUBMIT takes its blocks (a scan follows), creates the record under the issued ticket and
inserts it by class; a lane in PASS that is idle or waiting re-evaluates when the record has become its head. -/
def Obligations.SubmitCreatesAndQueuesTheRecord : Prop :=
  ∀ (s : State) (tag : Byte) (a : SubmitArgs) (t : Ticket) (rest : List Request),
    Taken s ⟨tag, submitBody a⟩ rest → a.Legal →
    let need := (a.payload.length + 31) / 32
    s.table.records.length < 128 → s.held a.lane + need ≤ (s.lane a.lane).config.cap →
    s.protectedSum + need ≤ s.freeCount → s.table.issue = some t →
    let r : Record :=
      { ticket := t, lane := a.lane, state := .queued, urgent := a.urgent, batchEnd := a.batchEnd,
        replyWanted := a.replyWanted,
        replyLimit := if a.replyWanted then some (a.replyLimit.getD (s.lane a.lane).config.defaultReplyLimit) else none,
        releaseTime := a.releaseTime, payloadLength := a.payload.length, sends := 0, misses := 0, busies := 0,
        uncertain := false, cancelMark := false, cause := none, rejectCode := none, replyLength := 0,
        completionTime := none, payloadChain := s.pool.free.take need, payload := a.payload, replyChain := [], reply := [] }
    let made : State := State.grantScan
      { s.taken rest with
        pool := { s.pool with free := s.pool.free.drop need }
        table := { s.table with records := s.table.records ++ [r], counter := if t < 65535 then t + 1 else 1 } }
    ∀ urgents normals, (made.lane a.lane).queue = urgents ++ normals →
      (∀ b ∈ urgents, made.isUrgent b = true) → (∀ b ∈ normals.head?, made.isUrgent b = false) →
      let queue := if a.urgent then urgents ++ t :: normals else (made.lane a.lane).queue ++ [t]
      let placed := made.withLane a.lane { made.lane a.lane with queue := queue }
      let answer := [0x20, 0x00] ++ bytesOf 2 t
      ((made.lane a.lane).mode = .pass → (made.lane a.lane).phase = .idle ∨ (made.lane a.lane).phase = .waitTime →
        queue.head? = some t → exec .submit s = .next ((placed.judgeHead a.lane).appends tag answer)) ∧
      ((made.lane a.lane).mode = .pass → (made.lane a.lane).phase = .waitSpace → queue.head? = some t →
        exec .submit s = .next ((placed.updateNeed a.lane).appends tag answer)) ∧
      ((made.lane a.lane).mode ≠ .pass ∨ queue.head? ≠ some t ∨
        ((made.lane a.lane).phase ≠ .idle ∧ (made.lane a.lane).phase ≠ .waitTime ∧ (made.lane a.lane).phase ≠ .waitSpace) →
        exec .submit s = .next (placed.appends tag answer))

/-- R25: below 128 live records a ticket is issued; it is the first one not live from the counter's value on, 65535 followed
by 1. -/
def Obligations.TicketIssuedIsTheNextFreeOne : Prop :=
  ∀ m : MessageTable, m.records.length < 128 → 1 ≤ m.counter → m.counter ≤ 65535 →
    ∃ k t, k < 128 ∧ m.issue = some t ∧ t = (m.counter - 1 + k) % 65535 + 1 ∧ (∀ r ∈ m.records, r.ticket ≠ t) ∧
      ∀ j < k, ∃ r ∈ m.records, r.ticket = (m.counter - 1 + j) % 65535 + 1

/-- R37, R16, R29, R13, R49, R51: CANCEL of a QUEUED record ends it at once; where it was the head, a lane in PASS that is idle or
waits re-evaluates, and a busy or held one does not. That a lane in WAIT_SPACE takes the freed payload and its new head as one change
is log 11, the order in which blocks return is log 7, that bytes go with their chain is log 22. -/
def Obligations.CancelEndsAQueuedRecord : Prop :=
  ∀ (s : State) (tag hi lo : Byte) (r : Record) (rest : List Request),
    Taken s ⟨tag, [0x21, hi, lo]⟩ rest → hi.toNat * 256 + lo.toNat ≠ 0 →
    s.record? (hi.toNat * 256 + lo.toNat) = some r → r.state = .queued →
    let x := s.lane r.lane
    let gone : State := (State.ended (s.taken rest) r.ticket (r.payloadChain ++ r.replyChain)
      (Record.finish .cancelled .byHost none s.time)).withLane r.lane { x with queue := x.queue.erase r.ticket }
    let ok := [0x21, 0x00, 0x01]
    (x.queue.head? ≠ some r.ticket ∨ x.mode ≠ .pass ∨ (x.phase ≠ .idle ∧ x.phase ≠ .waitTime ∧ x.phase ≠ .waitSpace) →
      x.phase ≠ .waitSpace ∨ x.queue.head? ≠ some r.ticket →
      exec .cancel s = .next (gone.grantScan.appends tag ok)) ∧
    (x.queue.head? = some r.ticket → x.mode = .pass → x.phase = .waitSpace →
      exec .cancel s = .next ((gone.updateNeed r.lane).appends tag ok)) ∧
    (x.queue.head? = some r.ticket → x.mode = .pass → x.phase = .idle ∨ x.phase = .waitTime → s.isWaiting r.lane = false →
      exec .cancel s = .next ((gone.grantScan.judgeHead r.lane).appends tag ok))

/-- R21, R37 to R39, R88: CANCEL of no record, of a terminal record, of an ACTIVE one during an attempt (marked) and between
attempts (ended at once, in HOLD with an IDLE event). The order in which blocks return is log 7, that bytes go with their chain is
log 22. -/
def Obligations.CancelMarksAnActiveRecord : Prop :=
  ∀ (s : State) (tag hi lo : Byte) (rest : List Request),
    Taken s ⟨tag, [0x21, hi, lo]⟩ rest → hi.toNat * 256 + lo.toNat ≠ 0 →
    let t := hi.toNat * 256 + lo.toNat
    (s.record? t = none → exec .cancel s = .next (s.answered rest tag [0x21, 0x09])) ∧
    ∀ r, s.record? t = some r →
      (r.state = .done ∨ r.state = .failed ∨ r.state = .cancelled →
        exec .cancel s = .next (s.answered rest tag [0x21, 0x00, 0x03])) ∧
      (r.state = .active →
        let x := s.lane r.lane
        let marked : State := { s.taken rest with table := { s.table with records := s.table.records.map fun y =>
          if y.ticket = t then { y with cancelMark := true } else y } }
        (x.phase ≠ .waitSlot → x.phase ≠ .backoff →
          exec .cancel s = .next (marked.appends tag [0x21, 0x00, 0x02])) ∧
        (x.phase = .waitSlot ∨ x.phase = .backoff →
          let done := (marked.ended t (r.payloadChain ++ r.replyChain) (Record.finish .cancelled .byHost none s.time)).grantScan
          let rested := done.withLane r.lane
            { done.lane r.lane with resync := (done.lane r.lane).resync || r.uncertain, backoffTimer := none, active := none,
                                    phase := .idle }
          ((done.lane r.lane).mode ≠ .pass → exec .cancel s =
            .next ((rested.raise ⟨.idle, some r.lane, t, .none, none⟩).appends tag [0x21, 0x00, 0x02])) ∧
          ((done.lane r.lane).mode = .pass → exec .cancel s =
            .next ((rested.judgeHead r.lane).appends tag [0x21, 0x00, 0x02]))))

/-- R40 with the layout of R191 and R192: QUERY answers BAD_ARGUMENT for ticket 0, NO_SUCH_TICKET, or the record's fields in 28
bytes, absent ones as zero with their presence bit clear, and changes nothing. -/
def Obligations.QueryReportsTheRecord : Prop :=
  ∀ (s : State) (tag hi lo : Byte) (rest : List Request),
    Taken s ⟨tag, [0x22, hi, lo]⟩ rest →
    let t := hi.toNat * 256 + lo.toNat
    (t = 0 → exec .query s = .next (s.answered rest tag [0x22, 0x03])) ∧
    (t ≠ 0 → s.record? t = none → exec .query s = .next (s.answered rest tag [0x22, 0x09])) ∧
    ∀ r, t ≠ 0 → s.record? t = some r →
      let queued := decide (r.state = .queued)
      let body := [0x22, 0x00, hi, lo, BitVec.ofNat 8 r.lane.val, r.state.code,
          BitVec.ofNat 8 (r.urgent.toNat + 2 * r.batchEnd.toNat + 4 * r.replyWanted.toNat + 8 * r.uncertain.toNat +
            16 * r.cancelMark.toNat),
          BitVec.ofNat 8 (r.replyLimit.isSome.toNat + 2 * r.releaseTime.isSome.toNat + 4 * r.cause.isSome.toNat +
            8 * r.rejectCode.isSome.toNat + 16 * r.completionTime.isSome.toNat + 32 * queued.toNat)] ++
        bytesOf 2 (r.replyLimit.getD 0) ++ bytesOf 4 (r.releaseTime.getD 0).toNat ++ bytesOf 2 r.payloadLength ++
        bytesOf 2 r.replyLength ++ [BitVec.ofNat 8 r.sends, BitVec.ofNat 8 r.misses, BitVec.ofNat 8 r.busies,
          r.cause.elim 0 Cause.code, r.rejectCode.getD 0] ++ bytesOf 4 (r.completionTime.getD 0).toNat ++
        [if queued then BitVec.ofNat 8 ((s.lane r.lane).queue.idxOf t + 1) else 0]
      body.length = 28 ∧ exec .query s = .next (s.answered rest tag body)

/-- R41: REPLY_READ's refusals in their order, the table of its rule, and that it changes nothing. That the bytes of the reply chain
stand with the record is log 22. -/
def Obligations.ReplyReadReturnsTheReplyBytes : Prop :=
  ∀ (s : State) (tag t1 t0 o1 o0 c1 c0 : Byte) (rest : List Request),
    Taken s ⟨tag, [0x23, t1, t0, o1, o0, c1, c0]⟩ rest →
    let t := t1.toNat * 256 + t0.toNat
    let offset := o1.toNat * 256 + o0.toNat
    let count := c1.toNat * 256 + c0.toNat
    (t = 0 ∨ count = 0 ∨ 256 < count → exec .replyRead s = .next (s.answered rest tag [0x23, 0x03])) ∧
    (t ≠ 0 → 1 ≤ count → count ≤ 256 →
      (s.record? t = none → exec .replyRead s = .next (s.answered rest tag [0x23, 0x09])) ∧
      ∀ r, s.record? t = some r →
        (r.state ≠ .done ∨ r.replyWanted = false → exec .replyRead s = .next (s.answered rest tag [0x23, 0x0B])) ∧
        (r.state = .done → r.replyWanted = true →
          (r.replyLength < offset → exec .replyRead s = .next (s.answered rest tag [0x23, 0x0C])) ∧
          (offset ≤ r.replyLength → r.reply.length = r.replyLength →
            let k := min count (r.replyLength - offset)
            ∃ bytes, bytes.length = k ∧ (∀ i < k, bytes[i]? = r.reply[offset + i]?) ∧
              exec .replyRead s = .next (s.answered rest tag ([0x23, 0x00] ++ bytesOf 2 k ++ bytes)))))

/-- R42: COLLECT's refusals, and the oldest matching entries of the completion list, at most the maximum; it removes nothing. -/
def Obligations.CollectListsTheOldestOutcomes : Prop :=
  ∀ (s : State) (tag filter maximum : Byte) (rest : List Request),
    Taken s ⟨tag, [0x24, filter, maximum]⟩ rest →
    ((8 ≤ filter.toNat ∧ filter.toNat ≠ 255) ∨ maximum.toNat = 0 ∨ 64 < maximum.toNat →
      exec .collect s = .next (s.answered rest tag [0x24, 0x03])) ∧
    ((filter.toNat < 8 ∨ filter.toNat = 255) → 1 ≤ maximum.toNat → maximum.toNat ≤ 64 →
      ∀ listed : List Record, listed.map (fun r => some r) = s.table.completion.map s.record? →
        let found := listed.filter fun r => filter.toNat = 255 || r.lane.val = filter.toNat
        let n := min found.length maximum.toNat
        exec .collect s = .next (s.answered rest tag
          ([0x24, 0x00, BitVec.ofNat 8 found.length, BitVec.ofNat 8 n] ++
            (found.take n).flatMap fun r => bytesOf 2 r.ticket ++ [r.state.code])))

/-- R43, R18: RETIRE's refusals in their order; a terminal record leaves the completion list and the table with its blocks
returned, and a scan follows only when blocks were returned. The order in which blocks return is log 7. -/
def Obligations.RetireRemovesATerminalRecord : Prop :=
  ∀ (s : State) (tag hi lo : Byte) (rest : List Request),
    Taken s ⟨tag, [0x25, hi, lo]⟩ rest →
    let t := hi.toNat * 256 + lo.toNat
    (t = 0 → exec .retire s = .next (s.answered rest tag [0x25, 0x03])) ∧
    (t ≠ 0 → s.record? t = none → exec .retire s = .next (s.answered rest tag [0x25, 0x09])) ∧
    ∀ r, t ≠ 0 → s.record? t = some r →
      (r.state = .queued ∨ r.state = .active → exec .retire s = .next (s.answered rest tag [0x25, 0x0A])) ∧
      (r.state = .done ∨ r.state = .failed ∨ r.state = .cancelled →
        let chains := r.payloadChain ++ r.replyChain
        let out : State :=
          { s.taken rest with
            pool := { s.pool with free := s.pool.free ++ chains }
            table := { s.table with records := s.table.records.filter fun y => y.ticket != t
                                    completion := s.table.completion.erase t } }
        (chains = [] → exec .retire s = .next (out.appends tag [0x25, 0x00])) ∧
        (chains ≠ [] → exec .retire s = .next (out.grantScan.appends tag [0x25, 0x00])))

/-- R143: REPORT_TAKE's refusals in their order; an accepted one returns and removes the oldest report and touches nothing else. -/
def Obligations.ReportTakeRemovesTheOldest : Prop :=
  ∀ (s : State) (tag : Byte) (rest : List Request),
    (∀ args, Taken s ⟨tag, 0x30 :: args⟩ rest → args.length ≠ 1 →
      exec .reportTake s = .next (s.answered rest tag [0x30, 0x02])) ∧
    (∀ lane : Byte, Taken s ⟨tag, [0x30, lane]⟩ rest → 8 ≤ lane.toNat →
      exec .reportTake s = .next (s.answered rest tag [0x30, 0x03])) ∧
    ∀ l : LaneId, Taken s ⟨tag, [0x30, BitVec.ofNat 8 l.val]⟩ rest →
      ((s.lane l).holding = [] → exec .reportTake s = .next (s.answered rest tag [0x30, 0x0D])) ∧
      ∀ p held, (s.lane l).holding = p :: held →
        exec .reportTake s = .next ((s.answered rest tag
          ([0x30, 0x00, BitVec.ofNat 8 p.bytes.length] ++ bytesOf 4 p.arrival.toNat ++ [BitVec.ofNat 8 held.length] ++
            p.bytes)).withLane l { s.lane l with holding := held })

/-! ### Time, pacing and selection -/

/-- R98, R99, R101, R103, R104, R116: an advance first takes the timed steps that are due, as the commands of those steps in the order
of log 4, then raises part time by 1 and counts every timer, watch, gap measurement and generator once, and does nothing else. Where no
step is due and no pause exceeds the gap limit, only HRX seen high after a break is taken first, as LINK_RESET (R174). While RESET_N is
low part time stands (R181). A credit earned by the advance joins the count below burst and is lost at burst. The reading of HRX and
DRXn is log 9, that due steps come first is log 4, that an earned credit waits for its own command is log 17.
Out of turn a command changes nothing (log 2). -/
def Obligations.TickCountsEverythingOnce : Prop :=
  (∀ (s : State) (p : TickSample),
    let counted (u : State) : State :=
      { u with time := u.time + 1, lanes := Vector.zipWith Lane.ticked p.drx u.lanes, link := u.link.ticked p }
    (s.resetLow = true → exec (.tick p) s = .next s) ∧
    (s.resetLow = false → ∃ u, runAll (tickCommands p) s = .next u ∧ exec (.tick p) s = .next (counted u)) ∧
    (s.resetLow = false → s.settled = true → (∀ l : LaneId, (s.lane l).gapOver (p.drx.get l).lead = false) →
      ∃ t, exec .linkReset s = .next t ∧ exec (.tick p) s = .next (counted (if p.hrx.wasHigh then t else s)))) ∧
  ∀ (s : State) (l : LaneId),
    let x := s.lane l
    (x.slots.due = true → exec (.slotCreditEarned l) s = .next (s.withLane l
      { x with slots := ⟨x.slots.accumulator, if x.slots.credits < x.config.burst then x.slots.credits + 1 else x.slots.credits,
                         false⟩ })) ∧
    (x.slots.due = false → exec (.slotCreditEarned l) s = .next s)

/-- R6, R7, R52 to R54, R76: how a lane in PASS judges its head when RELEASE_TIME_REACHED comes: no head, a release time not
reached, no reply need, an immediate grant, and a wait for space. Which free blocks are taken is log 7.
Out of turn a command changes nothing (log 2). -/
def Obligations.HeadIsJudgedByTimeThenSpace : Prop :=
  (∀ (s : State) (l : LaneId), (s.lane l).queue = [] → s.judgeHead l = s.withLane l { s.lane l with phase := .idle }) ∧
  ∀ (s : State) (l : LaneId) (r : Record), s.head? l = some r →
    let passed := r.releaseTime.all fun t => decide ((s.time - t).toNat < 2 ^ 31)
    let need := if r.replyWanted then (r.replyLimit.getD 0 + 31) / 32 else 0
    let fits := s.pool.waiting = [] ∧ need ≤ s.freeCount ∧ s.held l + need ≤ (s.lane l).config.cap
    (passed = false → s.judgeHead l = s.withLane l { s.lane l with phase := .waitTime }) ∧
    (passed = true →
      (need = 0 ∨ fits → s.judgeHead l = s.activated l r need) ∧
      (need ≠ 0 → ¬fits →
        let u : State := State.grantScan
          { s.withLane l { s.lane l with phase := .waitSpace } with
            pool := { s.pool with waiting := s.pool.waiting ++ [⟨l, need⟩] } }
        ((∀ e ∈ u.pool.waiting, e.lane ≠ l) → s.judgeHead l = u) ∧
        ((∃ e ∈ u.pool.waiting, e.lane = l) →
          s.judgeHead l = u.raise ⟨.spaceWait, some l, r.ticket, .need need, none⟩))) ∧
    ((s.lane l).mode = .pass → (s.lane l).phase = .waitTime → passed = true →
      exec (.releaseTimeReached l) s = .next (s.judgeHead l)) ∧
    ((s.lane l).mode ≠ .pass ∨ (s.lane l).phase ≠ .waitTime ∨ passed = false →
      exec (.releaseTimeReached l) s = .next s)

/-- R13, R14, R51: what becomes of the entry of a lane in WAIT_SPACE when its head changes: no head, a release time not reached,
no reply need, another need in the entry's own place. One scan follows. -/
def Obligations.HeadChangeUpdatesTheWaitingEntry : Prop :=
  ∀ (s : State) (l : LaneId),
    let left (p : Phase) : State :=
      { s.withLane l { s.lane l with phase := p } with
        pool := { s.pool with waiting := s.pool.waiting.filter fun e => e.lane != l } }
    ((s.lane l).queue = [] → s.updateNeed l = (left .idle).grantScan) ∧
    ∀ r, s.head? l = some r →
      let passed := r.releaseTime.all fun t => decide ((s.time - t).toNat < 2 ^ 31)
      let need := if r.replyWanted then (r.replyLimit.getD 0 + 31) / 32 else 0
      (passed = false → s.updateNeed l = (left .waitTime).grantScan) ∧
      (passed = true → need = 0 → s.updateNeed l = ((left (s.lane l).phase).activated l r 0).grantScan) ∧
      (passed = true → need ≠ 0 → s.updateNeed l = State.grantScan
        { s with pool := { s.pool with waiting := s.pool.waiting.map fun e => if e.lane = l then ⟨l, need⟩ else e } })

/-- R10, R11, R12: a grant scan leaves nothing that it could serve: in a state that obeys the laws of the part, the oldest entry that is
not cap-blocked after the scan needs more than the free count, a scan that can serve its oldest unblocked entry serves it, and a second
scan changes nothing. -/
def Obligations.ScanServesAllItMay : Prop :=
  ∀ s : State, Lawful s →
    let u := s.grantScan
    (∀ blocked e younger, u.pool.waiting = blocked ++ e :: younger →
      (∀ b ∈ blocked, (u.lane b.lane).config.cap < u.held b.lane + b.need) →
      u.held e.lane + e.need ≤ (u.lane e.lane).config.cap → u.freeCount < e.need) ∧
    (∀ blocked e younger, s.pool.waiting = blocked ++ e :: younger →
      (∀ b ∈ blocked, (s.lane b.lane).config.cap < s.held b.lane + b.need) →
      s.held e.lane + e.need ≤ (s.lane e.lane).config.cap → e.need ≤ s.freeCount →
      u.isWaiting e.lane = false ∧ (u.lane e.lane).phase = .waitSlot ∧ (u.lane e.lane).active = (s.head? e.lane).map Record.ticket) ∧
    u.grantScan = u

/-- R11: the walk of the scan, entry by entry: a cap-blocked entry is passed over, one that fits is granted, one that does not
fit ends the scan; and a granted entry leaves the list while its lane's head becomes ACTIVE with its need reserved (R12). Which free
blocks are taken is log 7. -/
def Obligations.ScanWalksFromTheOldest : Prop :=
  ∀ (s : State) (e : WaitEntry) (younger : List WaitEntry) (r : Record), s.head? e.lane = some r →
    ((s.lane e.lane).config.cap < s.held e.lane + e.need → s.scanFrom (e :: younger) = s.scanFrom younger) ∧
    (s.held e.lane + e.need ≤ (s.lane e.lane).config.cap →
      (e.need ≤ s.freeCount → s.scanFrom (e :: younger) =
        (State.activated { s with pool := { s.pool with waiting := s.pool.waiting.filter fun d => d.lane != e.lane } }
          e.lane r e.need).scanFrom younger) ∧
      (s.freeCount < e.need → s.scanFrom (e :: younger) = s))

/-! ### The delivery cycle -/

/-- R77, R78, R105, R115, R196: a lane in WAIT_SLOT starts its frame when it is unpaced or holds a credit, which it spends; the
frame's bytes are those of R196, and sends rises. At the frame's end the ack timer starts. DTXn carries the characters of the frame
being sent at the lane's rate (R112), is low in a break (R134) and high otherwise (R113).
Out of turn a command changes nothing (log 2). -/
def Obligations.FrameStartsAndEnds : Prop :=
  ∀ (s : State) (l : LaneId),
    let x := s.lane l
    (∀ t r, x.active = some t → s.record? t = some r → x.phase = .waitSlot →
      (x.config.pacingNum = 0 ∨ 1 ≤ x.slots.credits) →
      let payload := if x.ready = .data then r.payload else []
      let control := BitVec.ofNat 8 ((if x.ready = .data then 1 + 16 * x.resync.toNat else 2) + 8 * x.seq.toNat +
        32 * r.replyWanted.toNat)
      let covered := control :: bytesOf 2 payload.length ++ payload
      exec (.transmissionStart l) s = .next
        { s.withLane l
            { x with phase := .sending
                     slots := if x.config.pacingNum = 0 then x.slots else { x.slots with credits := x.slots.credits - 1 }
                     port := { x.port with tx := .sending (0x6C#8 :: covered ++ bytesOf 2 (crc16 covered).toNat) } } with
          table := { s.table with records := s.table.records.map fun y =>
            if y.ticket = t then { y with sends := min 255 (y.sends + 1) } else y } }) ∧
    (x.phase ≠ .waitSlot ∨ (x.config.pacingNum ≠ 0 ∧ x.slots.credits = 0) → exec (.transmissionStart l) s = .next s) ∧
    (x.phase = .sending → exec (.dropFrameSent l) s = .next (s.withLane l
      { x with phase := .awaitAnswer, ackTimer := some (100 * x.config.ackTimeout), port := { x.port with tx := .idle } })) ∧
    (x.phase ≠ .sending → exec (.dropFrameSent l) s = .next s) ∧
    (∀ frame, x.port.tx = .sending frame → SendsFrame (dropRate x.config.lineRate) frame (s.dtxHigh l)) ∧
    (x.port.tx = .idle → ∀ periods, s.dtxHigh l periods = true) ∧
    (x.port.tx = .breaking → ∀ periods, s.dtxHigh l periods = false)

/-- R79, R85, R86, R87, R89, R101: an expiry of the ack timer is a miss: a retry within the limit, a failure beyond it (with
HALTED under the policy HALT), the end of a marked record. The order in which blocks return is log 7, that bytes go with their chain
is log 22. -/
def Obligations.AckTimeoutIsAMiss : Prop :=
  ∀ (s : State) (l : LaneId) (t : Ticket) (r : Record),
    let x := s.lane l
    x.phase = .awaitAnswer → x.ackTimer = some 0 → x.active = some t → s.record? t = some r →
    let missed : State := { s.withLane l
        { x with ackTimer := none, counters := { x.counters with missesTotal := min 65535 (x.counters.missesTotal + 1) } } with
      table := { s.table with records := s.table.records.map fun y =>
        if y.ticket = t then { y with misses := min 255 (y.misses + 1), uncertain := true } else y } }
    let finished (cause : Cause) (st : RecordState) : State :=
      (missed.ended t (r.payloadChain ++ r.replyChain) (Record.finish st cause none s.time)).grantScan
    let rest (u : State) (m : Mode) (failed : Nat) : State := u.withLane l
      { u.lane l with mode := m, resync := true, active := none, phase := .idle, backoffTimer := none,
                      counters := { (u.lane l).counters with failed := failed } }
    (r.cancelMark = false → min 255 (r.misses + 1) ≤ x.config.retryLimit →
      exec (.ackTimeout l) s = .next (missed.withLane l { missed.lane l with phase := .waitSlot, ready := .data })) ∧
    (r.cancelMark = false → x.config.retryLimit < min 255 (r.misses + 1) → x.backoffTimer = none →
      let u := finished .noAnswer .failed
      s.isWaiting l = false →
      let failed := min 65535 (x.counters.failed + 1)
      let e (k : NoticeKind) : Event := ⟨k, some l, t, .cause .noAnswer, none⟩
      (x.config.failurePolicy = .halt → exec (.ackTimeout l) s =
        .next ((((rest u .halt failed).raise (e .failed)).raise (e .halted)).raise ⟨.idle, some l, t, .none, none⟩)) ∧
      (x.config.failurePolicy = .skip → x.mode ≠ .pass → exec (.ackTimeout l) s =
        .next (((rest u x.mode failed).raise (e .failed)).raise ⟨.idle, some l, t, .none, none⟩)) ∧
      (x.config.failurePolicy = .skip → x.mode = .pass → exec (.ackTimeout l) s =
        .next (((rest u x.mode failed).raise (e .failed)).judgeHead l))) ∧
    (r.cancelMark = true →
      let u := finished .byHost .cancelled
      s.isWaiting l = false →
      (x.mode ≠ .pass → exec (.ackTimeout l) s =
        .next ((rest u x.mode x.counters.failed).raise ⟨.idle, some l, t, .none, none⟩)) ∧
      (x.mode = .pass → exec (.ackTimeout l) s = .next ((rest u x.mode x.counters.failed).judgeHead l)))

/-- R82, R134, R135, R75, R101: the backoff timer, the break timer and the recovery timer at their expiry.
Out of turn a command changes nothing (log 2). -/
def Obligations.LaneTimersExpire : Prop :=
  ∀ (s : State) (l : LaneId),
    let x := s.lane l
    (x.phase = .backoff → x.backoffTimer = some 0 → exec (.backoffExpiry l) s =
      .next (s.withLane l { x with backoffTimer := none, phase := .waitSlot, ready := .data })) ∧
    (x.phase ≠ .backoff ∨ x.backoffTimer ≠ some 0 → exec (.backoffExpiry l) s = .next s) ∧
    (x.phase = .resetting → x.port.breakTimer = some 0 → exec (.dropResetBreakEnd l) s =
      .next (s.withLane l { x with port := { x.port with tx := .idle, breakTimer := none, recoveryTimer := some 2000 } })) ∧
    (x.phase ≠ .resetting ∨ x.port.breakTimer ≠ some 0 → exec (.dropResetBreakEnd l) s = .next s) ∧
    (x.phase = .resetting → x.port.recoveryTimer = some 0 →
      let rested := s.withLane l
        { x with seq := false, resync := true, active := none, phase := .idle,
                 port := { x.port with rx := .hunting, recoveryTimer := none } }
      (x.mode ≠ .pass → exec (.dropResetEnd l) s = .next (rested.raise ⟨.idle, some l, 0, .none, none⟩)) ∧
      (x.mode = .pass → exec (.dropResetEnd l) s = .next (rested.judgeHead l))) ∧
    (x.phase ≠ .resetting ∨ x.port.recoveryTimer ≠ some 0 → exec (.dropResetEnd l) s = .next s)

/-! ### The drop line, from the node -/

/-- R114, R116, R117, R123: the receiver takes the start byte and then the header. A header of an answer kind that finds the ack
timer running stops it and makes the frame expected; a header that fails its check makes the frame damaged at once. While RESET_N is
low nothing is framed (R181). Out of turn a command changes nothing (log 2). -/
def Obligations.ReceiverTakesTheHeader : Prop :=
  ∀ (s : State) (l : LaneId) (control hi lo : Byte),
    let x := s.lane l
    let kind := control.toNat % 8
    let length := hi.toNat * 256 + lo.toNat
    let good := control.toNat < 64 ∧ (kind = 3 ∧ length ≤ 64 ∨ (kind = 4 ∨ kind = 5) ∧ length = 0 ∨ kind = 6 ∧ length = 1 ∨
      kind = 7 ∧ length ≤ 512)
    let expected := 4 ≤ kind ∧ x.phase = .awaitAnswer ∧ x.ackTimer.isSome = true
    let cls : AnswerClass :=
      if 4 ≤ kind ∧ x.phase = .awaitAnswer ∧ x.ackTimer.isSome = true then .expected
      else if kind = 3 then .report else .unexpected
    (x.port.rx = .hunting → s.resetLow = false →
      exec (.dropStartByte l) s = .next (s.withLane l { x with port := { x.port with rx := .header false 0 } })) ∧
    (x.port.rx ≠ .hunting ∨ s.resetLow = true → exec (.dropStartByte l) s = .next s) ∧
    (∀ changed gap, x.port.rx = .header changed gap →
      (good → exec (.dropHeaderTaken l control hi lo) s = .next (s.withLane l
        { x with
          ackTimer := if 4 ≤ kind ∧ x.phase = .awaitAnswer then none else x.ackTimer
          port := { x.port with rx := .frame ⟨control, length, 4, crc16 [control, hi, lo], cls, changed, 0⟩ } })) ∧
      (¬good → ¬expected → exec (.dropHeaderTaken l control hi lo) s = .next (s.withLane l
        { x with
          port := { x.port with rx := .hunting }
          counters := { x.counters with damagedFrames := min 65535 (x.counters.damagedFrames + 1) } })) ∧
      (¬good → expected → exec (.dropHeaderTaken l control hi lo) s = .next ((s.withLane l
        { x with
          ackTimer := none
          port := { x.port with rx := .hunting }
          counters := { x.counters with damagedFrames := min 65535 (x.counters.damagedFrames + 1) } }).takeMiss l
        (decide (kind = 7))))) ∧
    ((∀ changed gap, x.port.rx ≠ .header changed gap) → exec (.dropHeaderTaken l control hi lo) s = .next s)

/-- R112, R116, R118, R119, R124, R129, R130: what damages a frame after its start byte, and what follows. A pause that exceeds 4
character times at the lane's rate cuts it, a pause within that limit does not; a framing fault cuts it; a bad check or a changed line
rate (log 14) damages it at its end. A damaged frame counts; where it was expected it is a miss as well, and after a REPLY header an NREQ
becomes ready. The bytes of a matching REPLY received so far stand in the reservation. The characters already taken are the command's
(log 13), the time since the last advance too (log 9). The order in which blocks return is log 7, that bytes go with their chain is
log 22. Out of turn a command changes nothing (log 2). -/
def Obligations.CutFrameIsDamaged : Prop :=
  ∀ (s : State) (l : LaneId),
    let x := s.lane l
    let exceeds (gap since : Nat) : Prop := 4 * 10 * 24000000 < (gap + since) * dropRate x.config.lineRate
    let heard : Lane := { x with
      port := { x.port with rx := .hunting }
      counters := { x.counters with damagedFrames := min 65535 (x.counters.damagedFrames + 1) } }
    (∀ changed gap taken, x.port.rx = .header changed gap → taken.length < 3 →
      (∀ since, exceeds gap since → exec (.dropGapCut l ⟨taken, since⟩) s = .next (s.withLane l heard)) ∧
      (∀ since, ¬exceeds gap since → exec (.dropGapCut l ⟨taken, since⟩) s = .next s) ∧
      exec (.dropFramingFault l taken) s = .next (s.withLane l heard)) ∧
    (∀ f, x.port.rx = .frame f →
      (∀ taken since, ¬exceeds f.gap since → exec (.dropGapCut l ⟨taken, since⟩) s = .next s) ∧
      ∀ (c : Instr) (bytes : List Byte),
        (bytes.length < f.length + 2 ∧ (c = .dropFramingFault l bytes ∨ ∃ since, exceeds f.gap since ∧ c = .dropGapCut l ⟨bytes, since⟩) ∨
          bytes.length = f.length + 2 ∧ c = .dropFrameEnd l bytes ∧
            (f.rateChanged = true ∨ bytes.drop f.length ≠ checkBytes (crcMore f.check (bytes.take f.length)))) →
        (f.answer ≠ .expected → exec c s = .next (s.withLane l heard)) ∧
        ∀ t r, f.answer = .expected → x.active = some t → s.record? t = some r →
          let payload := bytes.take f.length
          let stored (y : Record) : Record :=
            if f.control.toNat % 8 = 7 ∧ f.control.getLsbD 3 = x.seq ∧ y.replyWanted = true then
              { y with reply := payload.take (y.replyLimit.getD 0) ++ y.reply.drop (min payload.length (y.replyLimit.getD 0)) }
            else y
          let damaged : State := { s.withLane l heard with
            table := { s.table with records := s.table.records.map fun y => if y.ticket = t then stored y else y } }
          exec c s = .next (damaged.missed l t r (if f.control.toNat % 8 = 7 then .nreq else .data))) ∧
    (x.port.rx = .hunting ∨ x.port.rx = .discarding →
      ∀ bytes since, exec (.dropGapCut l ⟨bytes, since⟩) s = .next s ∧ exec (.dropFramingFault l bytes) s = .next s ∧
        exec (.dropFrameEnd l bytes) s = .next s)

/-- R15, R24, R29, R59 to R61, R75, R80, R130, R131: an undamaged expected ACK, or REPLY that fits, with the lane's seq completes the
message: what becomes of the record, the blocks, the lane and the notices. The order in which blocks return is log 7, that bytes go with
their chain is log 22. -/
def Obligations.CompletingAnswerEndsTheMessage : Prop :=
  ∀ (s : State) (l : LaneId) (t : Ticket) (r : Record) (f : RxFrame) (payload : List Byte),
    let x := s.lane l
    x.port.rx = .frame f → f.answer = .expected → f.rateChanged = false → f.control.getLsbD 3 = x.seq →
    payload.length = f.length → x.active = some t → s.record? t = some r →
    (f.control.toNat % 8 = 4 ∧ f.length = 0 ∨
      f.control.toNat % 8 = 7 ∧ (r.replyWanted = true → f.length ≤ r.replyLimit.getD 0)) →
    let n := if f.control.toNat % 8 = 7 ∧ r.replyWanted = true then f.length else 0
    let kept := (n + 31) / 32
    let ended : State := { s.withLane l { x with port := { x.port with rx := .hunting } } with
      pool := { s.pool with free := s.pool.free ++ (r.payloadChain ++ r.replyChain.drop kept) }
      table := { s.table with
        records := s.table.records.map fun y =>
          if y.ticket = t then
            { y with state := .done, completionTime := some s.time, replyLength := n, payloadChain := [], payload := [],
                     replyChain := y.replyChain.take kept, reply := if n = 0 then [] else payload }
          else y
        completion := s.table.completion ++ [t] } }
    let u := ended.grantScan
    let left := if x.config.quota = 0 then x.quotaLeft else x.quotaLeft - 1
    let hold : Option HoldReason :=
      if x.mode = .pass then
        (if r.batchEnd then some .batchEnd else if x.config.quota ≠ 0 ∧ x.quotaLeft = 1 then some .quota else none)
      else none
    let y := u.lane l
    let rested := u.withLane l
      { y with seq := !y.seq, resync := false, quotaLeft := left, active := none, phase := .idle,
               mode := if hold.isSome then .hold else y.mode
               counters := { y.counters with delivered := y.counters.delivered + 1 } }
    let done := rested.raise ⟨.done, some l, t, .none, none⟩
    let answer := exec (.dropFrameEnd l (payload ++ bytesOf 2 (crcMore f.check payload).toNat)) s
    s.isWaiting l = false →
    (∀ why, hold = some why → answer = .next ((done.raise ⟨.held, some l, t, .held why, none⟩).raise
      ⟨.idle, some l, t, .none, none⟩)) ∧
    (hold = none → x.mode ≠ .pass → answer = .next (done.raise ⟨.idle, some l, t, .none, none⟩)) ∧
    (hold = none → x.mode = .pass → answer = .next (done.judgeHead l))

/-- R81, R83, R84, R86, R87, R89, R124, R125, R126, R128, R131: the other undamaged answers. An unexpected answer is stray, on every lane
and with or without an active message; a wrong seq is stray and starts the ack timer afresh. A BUSY within the limit backs off, above it
fails the message, and of a marked record it is the end. A REJECT, and a REPLY longer than reply_limit, fail the message and halt the
lane, marked or not, and the oversize REPLY toggles seq. The order in which blocks return is log 7, that bytes go with their chain is
log 22. -/
def Obligations.OtherAnswersAreJudged : Prop :=
  ∀ (s : State) (l : LaneId) (f : RxFrame) (payload : List Byte),
    let x := s.lane l
    x.port.rx = .frame f → f.rateChanged = false → payload.length = f.length →
    let answer := exec (.dropFrameEnd l (payload ++ bytesOf 2 (crcMore f.check payload).toNat)) s
    let heard : Lane := { x with port := { x.port with rx := .hunting } }
    let stray : LaneCounters := { x.counters with strayFrames := min 65535 (x.counters.strayFrames + 1) }
    (f.answer = .unexpected → answer = .next (s.withLane l { heard with counters := stray })) ∧
    (f.answer = .expected → f.control.getLsbD 3 ≠ x.seq →
      answer = .next (s.withLane l { heard with counters := stray, ackTimer := some (100 * x.config.ackTimeout) })) ∧
    ∀ t r, x.active = some t → s.record? t = some r → f.answer = .expected → f.control.getLsbD 3 = x.seq →
      let sure : MessageTable := { s.table with records := s.table.records.map fun y =>
        if y.ticket = t then { y with uncertain := false } else y }
      (f.control.toNat % 8 = 5 →
        let busied : State :=
          { s.withLane l
              { heard with counters := { x.counters with busiesTotal := min 65535 (x.counters.busiesTotal + 1) }
                           busyCount := x.busyCount + 1 } with
            table := { s.table with records := s.table.records.map fun y =>
              if y.ticket = t then { y with busies := min 255 (y.busies + 1), uncertain := false } else y } }
        (r.cancelMark = false → x.config.busyLimit = 0 ∨ x.busyCount + 1 ≤ x.config.busyLimit →
          answer = .next (busied.withLane l
            { busied.lane l with phase := .backoff, backoffTimer := some (100 * x.config.busyBackoff) })) ∧
        (r.cancelMark = false → x.config.busyLimit ≠ 0 → x.config.busyLimit < x.busyCount + 1 →
          answer = .next (busied.failedWith l t r .busyLimit none false (x.config.failurePolicy == .halt))) ∧
        (r.cancelMark = true → answer = .next (busied.cancelledBy l t r false))) ∧
      (∀ code, f.control.toNat % 8 = 6 → payload = [code] →
        answer = .next ({ s.withLane l heard with table := sure }.failedWith l t r .rejected (some code) false true)) ∧
      (f.control.toNat % 8 = 7 → r.replyWanted = true → r.replyLimit.getD 0 < f.length →
        answer = .next ((s.withLane l { heard with seq := !x.seq }).failedWith l t r .oversizeReply none r.uncertain true))

/-- R132, R140, R141: an undamaged REPORT joins the holding below two reports and raises REPORT; at two it is lost, counted and
noticed as OVERRUN. Neither touches records, seq, phase or timers. -/
def Obligations.ReportJoinsTheHoldingOrIsLost : Prop :=
  ∀ (s : State) (l : LaneId) (f : RxFrame) (payload : List Byte),
    let x := s.lane l
    x.port.rx = .frame f → f.answer = .report → f.rateChanged = false → payload.length = f.length →
    let answer := exec (.dropFrameEnd l (payload ++ bytesOf 2 (crcMore f.check payload).toNat)) s
    let heard : Lane := { x with port := { x.port with rx := .hunting } }
    (x.holding.length < 2 → answer = .next ((s.withLane l { heard with holding := x.holding ++ [⟨payload, s.time⟩] }).raise
      ⟨.report, some l, 0, .none, none⟩)) ∧
    (2 ≤ x.holding.length → answer = .next ((s.withLane l
      { heard with counters := { x.counters with reportOverruns := min 65535 (x.counters.reportOverruns + 1) } }).raise
      ⟨.overrun, some l, 0, .none, none⟩))

/-! ### Laws that every step keeps -/

/-- R165, R139: both link queues hold at most 4 entries and every holding at most 2 reports, kept by every step from every state
that has it. -/
def Obligations.EveryStepKeepsTheQueueBounds : Prop :=
  ∀ s t : State, QueuesBounded s ∧ HoldingsBounded s → step s = .next t → QueuesBounded t ∧ HoldingsBounded t

/-- R65, R103, R109: configurations stay in their ranges, a paced lane's accumulator below D and its credits within burst, an
unpaced lane without either, kept by every step from every state that has it. -/
def Obligations.EveryStepKeepsTheGeneratorLaws : Prop :=
  ∀ s t : State, GeneratorsLawful s → step s = .next t → GeneratorsLawful t

/-- R1, R21, R25: every one of the 512 blocks is in exactly one place, and at most 128 live records share no ticket, kept by
every step from every state that has it. -/
def Obligations.EveryStepConservesBlocksAndTickets : Prop :=
  ∀ s t : State, TicketsLawful s ∧ BlocksConserved s → step s = .next t → TicketsLawful t ∧ BlocksConserved t

/-- R1, R2, R4, R8, R21, R22, R31, R47, R65, R74, R103: the laws of blocks, records, caps, queues, lanes, the completion list and
the space waiting list together, kept by every step from every state that has them. -/
def Obligations.EveryStepKeepsTheLawsOfThePart : Prop :=
  ∀ s t : State, Lawful s → step s = .next t → Lawful t
end

