-- ==== Sys2Proof/Laws/State.lean ====
section
/-! SUPPORT. What each update of State leaves and writes: one lemma per field per update, true by rfl, for simp. -/

namespace Sys2Proof.Machine

section
variable (s : State)

/-! #### onPool -/

@[simp] theorem onPool_time (f : BlockPool → BlockPool) : (s.onPool f).time = s.time := rfl
@[simp] theorem onPool_pool (f : BlockPool → BlockPool) : (s.onPool f).pool = f s.pool := rfl
@[simp] theorem onPool_table (f : BlockPool → BlockPool) : (s.onPool f).table = s.table := rfl
@[simp] theorem onPool_lanes (f : BlockPool → BlockPool) : (s.onPool f).lanes = s.lanes := rfl
@[simp] theorem onPool_notices (f : BlockPool → BlockPool) : (s.onPool f).notices = s.notices := rfl
@[simp] theorem onPool_link (f : BlockPool → BlockPool) : (s.onPool f).link = s.link := rfl
@[simp] theorem onPool_restartPending (f : BlockPool → BlockPool) : (s.onPool f).restartPending = s.restartPending := rfl
@[simp] theorem onPool_resetLow (f : BlockPool → BlockPool) : (s.onPool f).resetLow = s.resetLow := rfl
@[simp] theorem onPool_pending (f : BlockPool → BlockPool) : (s.onPool f).pending = s.pending := rfl

/-! #### onTable -/

@[simp] theorem onTable_time (f : MessageTable → MessageTable) : (s.onTable f).time = s.time := rfl
@[simp] theorem onTable_pool (f : MessageTable → MessageTable) : (s.onTable f).pool = s.pool := rfl
@[simp] theorem onTable_table (f : MessageTable → MessageTable) : (s.onTable f).table = f s.table := rfl
@[simp] theorem onTable_lanes (f : MessageTable → MessageTable) : (s.onTable f).lanes = s.lanes := rfl
@[simp] theorem onTable_notices (f : MessageTable → MessageTable) : (s.onTable f).notices = s.notices := rfl
@[simp] theorem onTable_link (f : MessageTable → MessageTable) : (s.onTable f).link = s.link := rfl
@[simp] theorem onTable_restartPending (f : MessageTable → MessageTable) : (s.onTable f).restartPending = s.restartPending := rfl
@[simp] theorem onTable_resetLow (f : MessageTable → MessageTable) : (s.onTable f).resetLow = s.resetLow := rfl
@[simp] theorem onTable_pending (f : MessageTable → MessageTable) : (s.onTable f).pending = s.pending := rfl

/-! #### onNotices -/

@[simp] theorem onNotices_time (f : NoticeUnit → NoticeUnit) : (s.onNotices f).time = s.time := rfl
@[simp] theorem onNotices_pool (f : NoticeUnit → NoticeUnit) : (s.onNotices f).pool = s.pool := rfl
@[simp] theorem onNotices_table (f : NoticeUnit → NoticeUnit) : (s.onNotices f).table = s.table := rfl
@[simp] theorem onNotices_lanes (f : NoticeUnit → NoticeUnit) : (s.onNotices f).lanes = s.lanes := rfl
@[simp] theorem onNotices_notices (f : NoticeUnit → NoticeUnit) : (s.onNotices f).notices = f s.notices := rfl
@[simp] theorem onNotices_link (f : NoticeUnit → NoticeUnit) : (s.onNotices f).link = s.link := rfl
@[simp] theorem onNotices_restartPending (f : NoticeUnit → NoticeUnit) : (s.onNotices f).restartPending = s.restartPending := rfl
@[simp] theorem onNotices_resetLow (f : NoticeUnit → NoticeUnit) : (s.onNotices f).resetLow = s.resetLow := rfl
@[simp] theorem onNotices_pending (f : NoticeUnit → NoticeUnit) : (s.onNotices f).pending = s.pending := rfl

/-! #### onLink -/

@[simp] theorem onLink_time (f : ControlLink → ControlLink) : (s.onLink f).time = s.time := rfl
@[simp] theorem onLink_pool (f : ControlLink → ControlLink) : (s.onLink f).pool = s.pool := rfl
@[simp] theorem onLink_table (f : ControlLink → ControlLink) : (s.onLink f).table = s.table := rfl
@[simp] theorem onLink_lanes (f : ControlLink → ControlLink) : (s.onLink f).lanes = s.lanes := rfl
@[simp] theorem onLink_notices (f : ControlLink → ControlLink) : (s.onLink f).notices = s.notices := rfl
@[simp] theorem onLink_link (f : ControlLink → ControlLink) : (s.onLink f).link = f s.link := rfl
@[simp] theorem onLink_restartPending (f : ControlLink → ControlLink) : (s.onLink f).restartPending = s.restartPending := rfl
@[simp] theorem onLink_resetLow (f : ControlLink → ControlLink) : (s.onLink f).resetLow = s.resetLow := rfl
@[simp] theorem onLink_pending (f : ControlLink → ControlLink) : (s.onLink f).pending = s.pending := rfl

/-! #### onLane -/

@[simp] theorem onLane_time (l : LaneId) (f : Lane → Lane) : (s.onLane l f).time = s.time := rfl
@[simp] theorem onLane_pool (l : LaneId) (f : Lane → Lane) : (s.onLane l f).pool = s.pool := rfl
@[simp] theorem onLane_table (l : LaneId) (f : Lane → Lane) : (s.onLane l f).table = s.table := rfl
@[simp] theorem onLane_lanes (l : LaneId) (f : Lane → Lane) : (s.onLane l f).lanes = s.lanes.set l.val (f (s.lane l)) := rfl
@[simp] theorem onLane_notices (l : LaneId) (f : Lane → Lane) : (s.onLane l f).notices = s.notices := rfl
@[simp] theorem onLane_link (l : LaneId) (f : Lane → Lane) : (s.onLane l f).link = s.link := rfl
@[simp] theorem onLane_restartPending (l : LaneId) (f : Lane → Lane) : (s.onLane l f).restartPending = s.restartPending := rfl
@[simp] theorem onLane_resetLow (l : LaneId) (f : Lane → Lane) : (s.onLane l f).resetLow = s.resetLow := rfl
@[simp] theorem onLane_pending (l : LaneId) (f : Lane → Lane) : (s.onLane l f).pending = s.pending := rfl

/-! #### onRecord -/

@[simp] theorem onRecord_time (t : Ticket) (f : Record → Record) : (s.onRecord t f).time = s.time := rfl
@[simp] theorem onRecord_pool (t : Ticket) (f : Record → Record) : (s.onRecord t f).pool = s.pool := rfl
@[simp] theorem onRecord_lanes (t : Ticket) (f : Record → Record) : (s.onRecord t f).lanes = s.lanes := rfl
@[simp] theorem onRecord_notices (t : Ticket) (f : Record → Record) : (s.onRecord t f).notices = s.notices := rfl
@[simp] theorem onRecord_link (t : Ticket) (f : Record → Record) : (s.onRecord t f).link = s.link := rfl
@[simp] theorem onRecord_restartPending (t : Ticket) (f : Record → Record) : (s.onRecord t f).restartPending = s.restartPending := rfl
@[simp] theorem onRecord_resetLow (t : Ticket) (f : Record → Record) : (s.onRecord t f).resetLow = s.resetLow := rfl
@[simp] theorem onRecord_pending (t : Ticket) (f : Record → Record) : (s.onRecord t f).pending = s.pending := rfl

/-! #### onCounters -/

@[simp] theorem onCounters_time (l : LaneId) (f : LaneCounters → LaneCounters) : (s.onCounters l f).time = s.time := rfl
@[simp] theorem onCounters_pool (l : LaneId) (f : LaneCounters → LaneCounters) : (s.onCounters l f).pool = s.pool := rfl
@[simp] theorem onCounters_table (l : LaneId) (f : LaneCounters → LaneCounters) : (s.onCounters l f).table = s.table := rfl
@[simp] theorem onCounters_notices (l : LaneId) (f : LaneCounters → LaneCounters) : (s.onCounters l f).notices = s.notices := rfl
@[simp] theorem onCounters_link (l : LaneId) (f : LaneCounters → LaneCounters) : (s.onCounters l f).link = s.link := rfl
@[simp] theorem onCounters_restartPending (l : LaneId) (f : LaneCounters → LaneCounters) : (s.onCounters l f).restartPending = s.restartPending := rfl
@[simp] theorem onCounters_resetLow (l : LaneId) (f : LaneCounters → LaneCounters) : (s.onCounters l f).resetLow = s.resetLow := rfl
@[simp] theorem onCounters_pending (l : LaneId) (f : LaneCounters → LaneCounters) : (s.onCounters l f).pending = s.pending := rfl

/-! #### onPort -/

@[simp] theorem onPort_time (l : LaneId) (f : DropPort → DropPort) : (s.onPort l f).time = s.time := rfl
@[simp] theorem onPort_pool (l : LaneId) (f : DropPort → DropPort) : (s.onPort l f).pool = s.pool := rfl
@[simp] theorem onPort_table (l : LaneId) (f : DropPort → DropPort) : (s.onPort l f).table = s.table := rfl
@[simp] theorem onPort_notices (l : LaneId) (f : DropPort → DropPort) : (s.onPort l f).notices = s.notices := rfl
@[simp] theorem onPort_link (l : LaneId) (f : DropPort → DropPort) : (s.onPort l f).link = s.link := rfl
@[simp] theorem onPort_restartPending (l : LaneId) (f : DropPort → DropPort) : (s.onPort l f).restartPending = s.restartPending := rfl
@[simp] theorem onPort_resetLow (l : LaneId) (f : DropPort → DropPort) : (s.onPort l f).resetLow = s.resetLow := rfl
@[simp] theorem onPort_pending (l : LaneId) (f : DropPort → DropPort) : (s.onPort l f).pending = s.pending := rfl

/-! #### setPhase -/

@[simp] theorem setPhase_time (l : LaneId) (p : Phase) : (s.setPhase l p).time = s.time := rfl
@[simp] theorem setPhase_pool (l : LaneId) (p : Phase) : (s.setPhase l p).pool = s.pool := rfl
@[simp] theorem setPhase_table (l : LaneId) (p : Phase) : (s.setPhase l p).table = s.table := rfl
@[simp] theorem setPhase_notices (l : LaneId) (p : Phase) : (s.setPhase l p).notices = s.notices := rfl
@[simp] theorem setPhase_link (l : LaneId) (p : Phase) : (s.setPhase l p).link = s.link := rfl
@[simp] theorem setPhase_restartPending (l : LaneId) (p : Phase) : (s.setPhase l p).restartPending = s.restartPending := rfl
@[simp] theorem setPhase_resetLow (l : LaneId) (p : Phase) : (s.setPhase l p).resetLow = s.resetLow := rfl
@[simp] theorem setPhase_pending (l : LaneId) (p : Phase) : (s.setPhase l p).pending = s.pending := rfl

/-! #### setMode -/

@[simp] theorem setMode_time (l : LaneId) (m : Mode) : (s.setMode l m).time = s.time := rfl
@[simp] theorem setMode_pool (l : LaneId) (m : Mode) : (s.setMode l m).pool = s.pool := rfl
@[simp] theorem setMode_table (l : LaneId) (m : Mode) : (s.setMode l m).table = s.table := rfl
@[simp] theorem setMode_notices (l : LaneId) (m : Mode) : (s.setMode l m).notices = s.notices := rfl
@[simp] theorem setMode_link (l : LaneId) (m : Mode) : (s.setMode l m).link = s.link := rfl
@[simp] theorem setMode_restartPending (l : LaneId) (m : Mode) : (s.setMode l m).restartPending = s.restartPending := rfl
@[simp] theorem setMode_resetLow (l : LaneId) (m : Mode) : (s.setMode l m).resetLow = s.resetLow := rfl
@[simp] theorem setMode_pending (l : LaneId) (m : Mode) : (s.setMode l m).pending = s.pending := rfl

/-! #### raise -/

@[simp] theorem raise_time (e : Event) : (s.raise e).time = s.time := rfl
@[simp] theorem raise_pool (e : Event) : (s.raise e).pool = s.pool := rfl
@[simp] theorem raise_table (e : Event) : (s.raise e).table = s.table := rfl
@[simp] theorem raise_lanes (e : Event) : (s.raise e).lanes = s.lanes := rfl
@[simp] theorem raise_link (e : Event) : (s.raise e).link = s.link := rfl
@[simp] theorem raise_restartPending (e : Event) : (s.raise e).restartPending = s.restartPending := rfl
@[simp] theorem raise_resetLow (e : Event) : (s.raise e).resetLow = s.resetLow := rfl
@[simp] theorem raise_pending (e : Event) : (s.raise e).pending = s.pending := rfl

/-! #### raiseLane -/

@[simp] theorem raiseLane_time (l : LaneId) (k : NoticeKind) (t : Ticket) (d : Detail) : (s.raiseLane l k t d).time = s.time := rfl
@[simp] theorem raiseLane_pool (l : LaneId) (k : NoticeKind) (t : Ticket) (d : Detail) : (s.raiseLane l k t d).pool = s.pool := rfl
@[simp] theorem raiseLane_table (l : LaneId) (k : NoticeKind) (t : Ticket) (d : Detail) : (s.raiseLane l k t d).table = s.table := rfl
@[simp] theorem raiseLane_lanes (l : LaneId) (k : NoticeKind) (t : Ticket) (d : Detail) : (s.raiseLane l k t d).lanes = s.lanes := rfl
@[simp] theorem raiseLane_link (l : LaneId) (k : NoticeKind) (t : Ticket) (d : Detail) : (s.raiseLane l k t d).link = s.link := rfl
@[simp] theorem raiseLane_restartPending (l : LaneId) (k : NoticeKind) (t : Ticket) (d : Detail) : (s.raiseLane l k t d).restartPending = s.restartPending := rfl
@[simp] theorem raiseLane_resetLow (l : LaneId) (k : NoticeKind) (t : Ticket) (d : Detail) : (s.raiseLane l k t d).resetLow = s.resetLow := rfl
@[simp] theorem raiseLane_pending (l : LaneId) (k : NoticeKind) (t : Ticket) (d : Detail) : (s.raiseLane l k t d).pending = s.pending := rfl

/-! #### raisePart -/

@[simp] theorem raisePart_time (k : NoticeKind) (d : Detail) : (s.raisePart k d).time = s.time := rfl
@[simp] theorem raisePart_pool (k : NoticeKind) (d : Detail) : (s.raisePart k d).pool = s.pool := rfl
@[simp] theorem raisePart_table (k : NoticeKind) (d : Detail) : (s.raisePart k d).table = s.table := rfl
@[simp] theorem raisePart_lanes (k : NoticeKind) (d : Detail) : (s.raisePart k d).lanes = s.lanes := rfl
@[simp] theorem raisePart_link (k : NoticeKind) (d : Detail) : (s.raisePart k d).link = s.link := rfl
@[simp] theorem raisePart_restartPending (k : NoticeKind) (d : Detail) : (s.raisePart k d).restartPending = s.restartPending := rfl
@[simp] theorem raisePart_resetLow (k : NoticeKind) (d : Detail) : (s.raisePart k d).resetLow = s.resetLow := rfl
@[simp] theorem raisePart_pending (k : NoticeKind) (d : Detail) : (s.raisePart k d).pending = s.pending := rfl

/-! #### dropFree -/

@[simp] theorem dropFree_time (n : Nat) : (s.dropFree n).time = s.time := rfl
@[simp] theorem dropFree_table (n : Nat) : (s.dropFree n).table = s.table := rfl
@[simp] theorem dropFree_lanes (n : Nat) : (s.dropFree n).lanes = s.lanes := rfl
@[simp] theorem dropFree_notices (n : Nat) : (s.dropFree n).notices = s.notices := rfl
@[simp] theorem dropFree_link (n : Nat) : (s.dropFree n).link = s.link := rfl
@[simp] theorem dropFree_restartPending (n : Nat) : (s.dropFree n).restartPending = s.restartPending := rfl
@[simp] theorem dropFree_resetLow (n : Nat) : (s.dropFree n).resetLow = s.resetLow := rfl
@[simp] theorem dropFree_pending (n : Nat) : (s.dropFree n).pending = s.pending := rfl

/-! #### returnBlocks -/

@[simp] theorem returnBlocks_time (bs : List BlockNo) : (s.returnBlocks bs).time = s.time := rfl
@[simp] theorem returnBlocks_table (bs : List BlockNo) : (s.returnBlocks bs).table = s.table := rfl
@[simp] theorem returnBlocks_lanes (bs : List BlockNo) : (s.returnBlocks bs).lanes = s.lanes := rfl
@[simp] theorem returnBlocks_notices (bs : List BlockNo) : (s.returnBlocks bs).notices = s.notices := rfl
@[simp] theorem returnBlocks_link (bs : List BlockNo) : (s.returnBlocks bs).link = s.link := rfl
@[simp] theorem returnBlocks_restartPending (bs : List BlockNo) : (s.returnBlocks bs).restartPending = s.restartPending := rfl
@[simp] theorem returnBlocks_resetLow (bs : List BlockNo) : (s.returnBlocks bs).resetLow = s.resetLow := rfl
@[simp] theorem returnBlocks_pending (bs : List BlockNo) : (s.returnBlocks bs).pending = s.pending := rfl

/-! #### reserve -/

@[simp] theorem reserve_time (t : Ticket) (n : Nat) : (s.reserve t n).time = s.time := rfl
@[simp] theorem reserve_lanes (t : Ticket) (n : Nat) : (s.reserve t n).lanes = s.lanes := rfl
@[simp] theorem reserve_notices (t : Ticket) (n : Nat) : (s.reserve t n).notices = s.notices := rfl
@[simp] theorem reserve_link (t : Ticket) (n : Nat) : (s.reserve t n).link = s.link := rfl
@[simp] theorem reserve_restartPending (t : Ticket) (n : Nat) : (s.reserve t n).restartPending = s.restartPending := rfl
@[simp] theorem reserve_resetLow (t : Ticket) (n : Nat) : (s.reserve t n).resetLow = s.resetLow := rfl
@[simp] theorem reserve_pending (t : Ticket) (n : Nat) : (s.reserve t n).pending = s.pending := rfl

/-! #### removeWaiting -/

@[simp] theorem removeWaiting_time (l : LaneId) : (s.removeWaiting l).time = s.time := rfl
@[simp] theorem removeWaiting_table (l : LaneId) : (s.removeWaiting l).table = s.table := rfl
@[simp] theorem removeWaiting_lanes (l : LaneId) : (s.removeWaiting l).lanes = s.lanes := rfl
@[simp] theorem removeWaiting_notices (l : LaneId) : (s.removeWaiting l).notices = s.notices := rfl
@[simp] theorem removeWaiting_link (l : LaneId) : (s.removeWaiting l).link = s.link := rfl
@[simp] theorem removeWaiting_restartPending (l : LaneId) : (s.removeWaiting l).restartPending = s.restartPending := rfl
@[simp] theorem removeWaiting_resetLow (l : LaneId) : (s.removeWaiting l).resetLow = s.resetLow := rfl
@[simp] theorem removeWaiting_pending (l : LaneId) : (s.removeWaiting l).pending = s.pending := rfl

/-! #### appendWaiting -/

@[simp] theorem appendWaiting_time (e : WaitEntry) : (s.appendWaiting e).time = s.time := rfl
@[simp] theorem appendWaiting_table (e : WaitEntry) : (s.appendWaiting e).table = s.table := rfl
@[simp] theorem appendWaiting_lanes (e : WaitEntry) : (s.appendWaiting e).lanes = s.lanes := rfl
@[simp] theorem appendWaiting_notices (e : WaitEntry) : (s.appendWaiting e).notices = s.notices := rfl
@[simp] theorem appendWaiting_link (e : WaitEntry) : (s.appendWaiting e).link = s.link := rfl
@[simp] theorem appendWaiting_restartPending (e : WaitEntry) : (s.appendWaiting e).restartPending = s.restartPending := rfl
@[simp] theorem appendWaiting_resetLow (e : WaitEntry) : (s.appendWaiting e).resetLow = s.resetLow := rfl
@[simp] theorem appendWaiting_pending (e : WaitEntry) : (s.appendWaiting e).pending = s.pending := rfl

/-! #### setNeed -/

@[simp] theorem setNeed_time (l : LaneId) (n : Nat) : (s.setNeed l n).time = s.time := rfl
@[simp] theorem setNeed_table (l : LaneId) (n : Nat) : (s.setNeed l n).table = s.table := rfl
@[simp] theorem setNeed_lanes (l : LaneId) (n : Nat) : (s.setNeed l n).lanes = s.lanes := rfl
@[simp] theorem setNeed_notices (l : LaneId) (n : Nat) : (s.setNeed l n).notices = s.notices := rfl
@[simp] theorem setNeed_link (l : LaneId) (n : Nat) : (s.setNeed l n).link = s.link := rfl
@[simp] theorem setNeed_restartPending (l : LaneId) (n : Nat) : (s.setNeed l n).restartPending = s.restartPending := rfl
@[simp] theorem setNeed_resetLow (l : LaneId) (n : Nat) : (s.setNeed l n).resetLow = s.resetLow := rfl
@[simp] theorem setNeed_pending (l : LaneId) (n : Nat) : (s.setNeed l n).pending = s.pending := rfl

/-! #### activate -/

@[simp] theorem activate_time (l : LaneId) (t : Ticket) (n : Nat) : (s.activate l t n).time = s.time := rfl
@[simp] theorem activate_notices (l : LaneId) (t : Ticket) (n : Nat) : (s.activate l t n).notices = s.notices := rfl
@[simp] theorem activate_link (l : LaneId) (t : Ticket) (n : Nat) : (s.activate l t n).link = s.link := rfl
@[simp] theorem activate_restartPending (l : LaneId) (t : Ticket) (n : Nat) : (s.activate l t n).restartPending = s.restartPending := rfl
@[simp] theorem activate_resetLow (l : LaneId) (t : Ticket) (n : Nat) : (s.activate l t n).resetLow = s.resetLow := rfl
@[simp] theorem activate_pending (l : LaneId) (t : Ticket) (n : Nat) : (s.activate l t n).pending = s.pending := rfl

/-! #### insertNew -/

@[simp] theorem insertNew_time (l : LaneId) (t : Ticket) (u : Bool) : (s.insertNew l t u).time = s.time := rfl
@[simp] theorem insertNew_pool (l : LaneId) (t : Ticket) (u : Bool) : (s.insertNew l t u).pool = s.pool := rfl
@[simp] theorem insertNew_table (l : LaneId) (t : Ticket) (u : Bool) : (s.insertNew l t u).table = s.table := rfl
@[simp] theorem insertNew_notices (l : LaneId) (t : Ticket) (u : Bool) : (s.insertNew l t u).notices = s.notices := rfl
@[simp] theorem insertNew_link (l : LaneId) (t : Ticket) (u : Bool) : (s.insertNew l t u).link = s.link := rfl
@[simp] theorem insertNew_restartPending (l : LaneId) (t : Ticket) (u : Bool) : (s.insertNew l t u).restartPending = s.restartPending := rfl
@[simp] theorem insertNew_resetLow (l : LaneId) (t : Ticket) (u : Bool) : (s.insertNew l t u).resetLow = s.resetLow := rfl
@[simp] theorem insertNew_pending (l : LaneId) (t : Ticket) (u : Bool) : (s.insertNew l t u).pending = s.pending := rfl

/-! #### requeue -/

@[simp] theorem requeue_time (l : LaneId) (t : Ticket) (u : Bool) : (s.requeue l t u).time = s.time := rfl
@[simp] theorem requeue_pool (l : LaneId) (t : Ticket) (u : Bool) : (s.requeue l t u).pool = s.pool := rfl
@[simp] theorem requeue_table (l : LaneId) (t : Ticket) (u : Bool) : (s.requeue l t u).table = s.table := rfl
@[simp] theorem requeue_notices (l : LaneId) (t : Ticket) (u : Bool) : (s.requeue l t u).notices = s.notices := rfl
@[simp] theorem requeue_link (l : LaneId) (t : Ticket) (u : Bool) : (s.requeue l t u).link = s.link := rfl
@[simp] theorem requeue_restartPending (l : LaneId) (t : Ticket) (u : Bool) : (s.requeue l t u).restartPending = s.restartPending := rfl
@[simp] theorem requeue_resetLow (l : LaneId) (t : Ticket) (u : Bool) : (s.requeue l t u).resetLow = s.resetLow := rfl
@[simp] theorem requeue_pending (l : LaneId) (t : Ticket) (u : Bool) : (s.requeue l t u).pending = s.pending := rfl

/-! #### markResync -/

@[simp] theorem markResync_time (l : LaneId) (u : Bool) : (s.markResync l u).time = s.time := rfl
@[simp] theorem markResync_pool (l : LaneId) (u : Bool) : (s.markResync l u).pool = s.pool := rfl
@[simp] theorem markResync_table (l : LaneId) (u : Bool) : (s.markResync l u).table = s.table := rfl
@[simp] theorem markResync_notices (l : LaneId) (u : Bool) : (s.markResync l u).notices = s.notices := rfl
@[simp] theorem markResync_link (l : LaneId) (u : Bool) : (s.markResync l u).link = s.link := rfl
@[simp] theorem markResync_restartPending (l : LaneId) (u : Bool) : (s.markResync l u).restartPending = s.restartPending := rfl
@[simp] theorem markResync_resetLow (l : LaneId) (u : Bool) : (s.markResync l u).resetLow = s.resetLow := rfl
@[simp] theorem markResync_pending (l : LaneId) (u : Bool) : (s.markResync l u).pending = s.pending := rfl

/-! #### countDamaged -/

@[simp] theorem countDamaged_time (l : LaneId) : (s.countDamaged l).time = s.time := rfl
@[simp] theorem countDamaged_pool (l : LaneId) : (s.countDamaged l).pool = s.pool := rfl
@[simp] theorem countDamaged_table (l : LaneId) : (s.countDamaged l).table = s.table := rfl
@[simp] theorem countDamaged_notices (l : LaneId) : (s.countDamaged l).notices = s.notices := rfl
@[simp] theorem countDamaged_link (l : LaneId) : (s.countDamaged l).link = s.link := rfl
@[simp] theorem countDamaged_restartPending (l : LaneId) : (s.countDamaged l).restartPending = s.restartPending := rfl
@[simp] theorem countDamaged_resetLow (l : LaneId) : (s.countDamaged l).resetLow = s.resetLow := rfl
@[simp] theorem countDamaged_pending (l : LaneId) : (s.countDamaged l).pending = s.pending := rfl

/-! #### countStray -/

@[simp] theorem countStray_time (l : LaneId) : (s.countStray l).time = s.time := rfl
@[simp] theorem countStray_pool (l : LaneId) : (s.countStray l).pool = s.pool := rfl
@[simp] theorem countStray_table (l : LaneId) : (s.countStray l).table = s.table := rfl
@[simp] theorem countStray_notices (l : LaneId) : (s.countStray l).notices = s.notices := rfl
@[simp] theorem countStray_link (l : LaneId) : (s.countStray l).link = s.link := rfl
@[simp] theorem countStray_restartPending (l : LaneId) : (s.countStray l).restartPending = s.restartPending := rfl
@[simp] theorem countStray_resetLow (l : LaneId) : (s.countStray l).resetLow = s.resetLow := rfl
@[simp] theorem countStray_pending (l : LaneId) : (s.countStray l).pending = s.pending := rfl

/-! #### startAck -/

@[simp] theorem startAck_time (l : LaneId) : (s.startAck l).time = s.time := rfl
@[simp] theorem startAck_pool (l : LaneId) : (s.startAck l).pool = s.pool := rfl
@[simp] theorem startAck_table (l : LaneId) : (s.startAck l).table = s.table := rfl
@[simp] theorem startAck_notices (l : LaneId) : (s.startAck l).notices = s.notices := rfl
@[simp] theorem startAck_link (l : LaneId) : (s.startAck l).link = s.link := rfl
@[simp] theorem startAck_restartPending (l : LaneId) : (s.startAck l).restartPending = s.restartPending := rfl
@[simp] theorem startAck_resetLow (l : LaneId) : (s.startAck l).resetLow = s.resetLow := rfl
@[simp] theorem startAck_pending (l : LaneId) : (s.startAck l).pending = s.pending := rfl

/-! #### cutAttempt -/

@[simp] theorem cutAttempt_time (l : LaneId) : (s.cutAttempt l).time = s.time := rfl
@[simp] theorem cutAttempt_pool (l : LaneId) : (s.cutAttempt l).pool = s.pool := rfl
@[simp] theorem cutAttempt_table (l : LaneId) : (s.cutAttempt l).table = s.table := rfl
@[simp] theorem cutAttempt_notices (l : LaneId) : (s.cutAttempt l).notices = s.notices := rfl
@[simp] theorem cutAttempt_link (l : LaneId) : (s.cutAttempt l).link = s.link := rfl
@[simp] theorem cutAttempt_restartPending (l : LaneId) : (s.cutAttempt l).restartPending = s.restartPending := rfl
@[simp] theorem cutAttempt_resetLow (l : LaneId) : (s.cutAttempt l).resetLow = s.resetLow := rfl
@[simp] theorem cutAttempt_pending (l : LaneId) : (s.cutAttempt l).pending = s.pending := rfl

/-! #### popIntake -/

@[simp] theorem popIntake_time : s.popIntake.time = s.time := rfl
@[simp] theorem popIntake_pool : s.popIntake.pool = s.pool := rfl
@[simp] theorem popIntake_table : s.popIntake.table = s.table := rfl
@[simp] theorem popIntake_lanes : s.popIntake.lanes = s.lanes := rfl
@[simp] theorem popIntake_notices : s.popIntake.notices = s.notices := rfl
@[simp] theorem popIntake_restartPending : s.popIntake.restartPending = s.restartPending := rfl
@[simp] theorem popIntake_resetLow : s.popIntake.resetLow = s.resetLow := rfl
@[simp] theorem popIntake_pending : s.popIntake.pending = s.pending := rfl

/-! #### respond -/

@[simp] theorem respond_time (q : Request) (r : Reply) : (s.respond q r).time = s.time := rfl
@[simp] theorem respond_pool (q : Request) (r : Reply) : (s.respond q r).pool = s.pool := rfl
@[simp] theorem respond_table (q : Request) (r : Reply) : (s.respond q r).table = s.table := rfl
@[simp] theorem respond_lanes (q : Request) (r : Reply) : (s.respond q r).lanes = s.lanes := rfl
@[simp] theorem respond_notices (q : Request) (r : Reply) : (s.respond q r).notices = s.notices := rfl
@[simp] theorem respond_restartPending (q : Request) (r : Reply) : (s.respond q r).restartPending = s.restartPending := rfl
@[simp] theorem respond_resetLow (q : Request) (r : Reply) : (s.respond q r).resetLow = s.resetLow := rfl
@[simp] theorem respond_pending (q : Request) (r : Reply) : (s.respond q r).pending = s.pending := rfl

/-! #### advance -/

@[simp] theorem advance_pool (p : TickSample) : (s.advance p).pool = s.pool := rfl
@[simp] theorem advance_table (p : TickSample) : (s.advance p).table = s.table := rfl
@[simp] theorem advance_notices (p : TickSample) : (s.advance p).notices = s.notices := rfl
@[simp] theorem advance_restartPending (p : TickSample) : (s.advance p).restartPending = s.restartPending := rfl
@[simp] theorem advance_resetLow (p : TickSample) : (s.advance p).resetLow = s.resetLow := rfl
@[simp] theorem advance_pending (p : TickSample) : (s.advance p).pending = s.pending := rfl

/-! #### Lanes and records under the updates -/

@[simp] theorem lane_onPool (f : BlockPool → BlockPool) (l : LaneId) : (s.onPool f).lane l = s.lane l := rfl
@[simp] theorem lane_onTable (f : MessageTable → MessageTable) (l : LaneId) : (s.onTable f).lane l = s.lane l := rfl
@[simp] theorem lane_onNotices (f : NoticeUnit → NoticeUnit) (l : LaneId) : (s.onNotices f).lane l = s.lane l := rfl
@[simp] theorem lane_onLink (f : ControlLink → ControlLink) (l : LaneId) : (s.onLink f).lane l = s.lane l := rfl
@[simp] theorem lane_onRecord (t : Ticket) (f : Record → Record) (l : LaneId) : (s.onRecord t f).lane l = s.lane l := rfl
@[simp] theorem lane_raise (e : Event) (l : LaneId) : (s.raise e).lane l = s.lane l := rfl
@[simp] theorem lane_raiseLane (m : LaneId) (k : NoticeKind) (t : Ticket) (d : Detail) (l : LaneId) :
    (s.raiseLane m k t d).lane l = s.lane l := rfl

/-- Reading a lane after an update of some lane. -/
theorem lane_onLane (l m : LaneId) (f : Lane → Lane) :
    (s.onLane l f).lane m = if l = m then f (s.lane l) else s.lane m := by
  simp only [State.lane, State.onLane, Vector.get_eq_getElem, Vector.getElem_set, Fin.ext_iff]

@[simp] theorem lane_onLane_self (l : LaneId) (f : Lane → Lane) : (s.onLane l f).lane l = f (s.lane l) := by
  simp [lane_onLane]

theorem lane_onLane_of_ne {l m : LaneId} (f : Lane → Lane) (h : l ≠ m) : (s.onLane l f).lane m = s.lane m := by
  simp [lane_onLane, h]

/-- Reading a lane after an update of its counters. -/
theorem lane_onCounters (l m : LaneId) (f : LaneCounters → LaneCounters) :
    (s.onCounters l f).lane m = if l = m then { s.lane l with counters := f (s.lane l).counters } else s.lane m :=
  lane_onLane s l m _

/-- Reading a lane after an update of its Drop Port. -/
theorem lane_onPort (l m : LaneId) (f : DropPort → DropPort) :
    (s.onPort l f).lane m = if l = m then { s.lane l with port := f (s.lane l).port } else s.lane m := lane_onLane s l m _

/-- Reading a lane after its phase is set. -/
theorem lane_setPhase (l m : LaneId) (p : Phase) :
    (s.setPhase l p).lane m = if l = m then { s.lane l with phase := p } else s.lane m := lane_onLane s l m _

/-- Reading a lane after its mode is set. -/
theorem lane_setMode (l m : LaneId) (x : Mode) :
    (s.setMode l x).lane m = if l = m then { s.lane l with mode := x } else s.lane m := lane_onLane s l m _

/-- Two updates of one lane are one. -/
theorem onLane_onLane (l : LaneId) (f g : Lane → Lane) : (s.onLane l f).onLane l g = s.onLane l (fun x => g (f x)) := by
  have h : (s.onLane l f).lane l = f (s.lane l) := lane_onLane_self s l f
  rw [State.onLane, h]
  simp [State.onLane]

/-- Reading a lane after an advance of part time. -/
@[simp] theorem lane_advance (p : TickSample) (l : LaneId) : (s.advance p).lane l = (s.lane l).advance (p.drx.get l) := by
  simp [State.lane, State.advance, Vector.get_eq_getElem]

@[simp] theorem record?_onPool (f : BlockPool → BlockPool) (t : Ticket) : (s.onPool f).record? t = s.record? t := rfl
@[simp] theorem record?_onLane (l : LaneId) (f : Lane → Lane) (t : Ticket) : (s.onLane l f).record? t = s.record? t := rfl
@[simp] theorem record?_onNotices (f : NoticeUnit → NoticeUnit) (t : Ticket) :
    (s.onNotices f).record? t = s.record? t := rfl
@[simp] theorem record?_onLink (f : ControlLink → ControlLink) (t : Ticket) : (s.onLink f).record? t = s.record? t := rfl

end

/-- A record that a lookup answers is live and has the ticket. -/
theorem record?_some {s : State} {t : Ticket} {r : Record} (h : s.record? t = some r) :
    r ∈ s.table.records ∧ r.ticket = t := by
  have h' : s.table.records.find? (fun r => r.ticket == t) = some r := h
  exact ⟨List.mem_of_find?_eq_some h', by simpa using List.find?_some h'⟩

/-- Two states are equal when their nine fields are. -/
theorem State.ext_fields {a b : State} (h1 : a.time = b.time) (h2 : a.pool = b.pool) (h3 : a.table = b.table)
    (h4 : a.lanes = b.lanes) (h5 : a.notices = b.notices) (h6 : a.link = b.link)
    (h7 : a.restartPending = b.restartPending) (h8 : a.resetLow = b.resetLow) (h9 : a.pending = b.pending) : a = b := by
  cases a; cases b; simp_all

end Sys2Proof.Machine
end

