-- ==== Sys2Proof/Laws/Ops.lean ====
section
/-! SUPPORT. What each shared operation can do: the fields it leaves, and its answer in each of its cases. -/

namespace Sys2Proof.Machine

/-! ### The fields that an operation leaves -/

section
variable (s : State)

/-! #### grant and the grant scan -/

@[simp] theorem grant_time (e : WaitEntry) : (s.grant e).time = s.time := by
  unfold State.grant; split <;> simp
@[simp] theorem grant_link (e : WaitEntry) : (s.grant e).link = s.link := by
  unfold State.grant; split <;> simp
@[simp] theorem grant_restartPending (e : WaitEntry) : (s.grant e).restartPending = s.restartPending := by
  unfold State.grant; split <;> simp
@[simp] theorem grant_resetLow (e : WaitEntry) : (s.grant e).resetLow = s.resetLow := by
  unfold State.grant; split <;> simp
@[simp] theorem grant_pending (e : WaitEntry) : (s.grant e).pending = s.pending := by
  unfold State.grant; split <;> simp
@[simp] theorem grant_notices (e : WaitEntry) : (s.grant e).notices = s.notices := by
  unfold State.grant; split <;> simp
@[simp] theorem scanFrom_time (es : List WaitEntry) : (s.scanFrom es).time = s.time := by
  induction es generalizing s with
  | nil => rfl
  | cons e rest ih => unfold State.scanFrom; split_ifs <;> simp [ih]
@[simp] theorem scanFrom_link (es : List WaitEntry) : (s.scanFrom es).link = s.link := by
  induction es generalizing s with
  | nil => rfl
  | cons e rest ih => unfold State.scanFrom; split_ifs <;> simp [ih]
@[simp] theorem scanFrom_restartPending (es : List WaitEntry) : (s.scanFrom es).restartPending = s.restartPending := by
  induction es generalizing s with
  | nil => rfl
  | cons e rest ih => unfold State.scanFrom; split_ifs <;> simp [ih]
@[simp] theorem scanFrom_resetLow (es : List WaitEntry) : (s.scanFrom es).resetLow = s.resetLow := by
  induction es generalizing s with
  | nil => rfl
  | cons e rest ih => unfold State.scanFrom; split_ifs <;> simp [ih]
@[simp] theorem scanFrom_pending (es : List WaitEntry) : (s.scanFrom es).pending = s.pending := by
  induction es generalizing s with
  | nil => rfl
  | cons e rest ih => unfold State.scanFrom; split_ifs <;> simp [ih]
@[simp] theorem scanFrom_notices (es : List WaitEntry) : (s.scanFrom es).notices = s.notices := by
  induction es generalizing s with
  | nil => rfl
  | cons e rest ih => unfold State.scanFrom; split_ifs <;> simp [ih]
@[simp] theorem grantScan_time  : (s.grantScan).time = s.time := by
  unfold State.grantScan; simp
@[simp] theorem grantScan_link  : (s.grantScan).link = s.link := by
  unfold State.grantScan; simp
@[simp] theorem grantScan_restartPending  : (s.grantScan).restartPending = s.restartPending := by
  unfold State.grantScan; simp
@[simp] theorem grantScan_resetLow  : (s.grantScan).resetLow = s.resetLow := by
  unfold State.grantScan; simp
@[simp] theorem grantScan_pending  : (s.grantScan).pending = s.pending := by
  unfold State.grantScan; simp
@[simp] theorem grantScan_notices  : (s.grantScan).notices = s.notices := by
  unfold State.grantScan; simp

/-! #### head selection -/

@[simp] theorem spaceStep_time (l : LaneId) (r : Record) : (s.spaceStep l r).time = s.time := by
  unfold State.spaceStep; dsimp only; split_ifs <;> simp
@[simp] theorem spaceStep_link (l : LaneId) (r : Record) : (s.spaceStep l r).link = s.link := by
  unfold State.spaceStep; dsimp only; split_ifs <;> simp
@[simp] theorem spaceStep_restartPending (l : LaneId) (r : Record) : (s.spaceStep l r).restartPending = s.restartPending := by
  unfold State.spaceStep; dsimp only; split_ifs <;> simp
@[simp] theorem spaceStep_resetLow (l : LaneId) (r : Record) : (s.spaceStep l r).resetLow = s.resetLow := by
  unfold State.spaceStep; dsimp only; split_ifs <;> simp
@[simp] theorem spaceStep_pending (l : LaneId) (r : Record) : (s.spaceStep l r).pending = s.pending := by
  unfold State.spaceStep; dsimp only; split_ifs <;> simp
@[simp] theorem judgeHead_time (l : LaneId) : (s.judgeHead l).time = s.time := by
  unfold State.judgeHead; split <;> [skip; split_ifs] <;> simp
@[simp] theorem judgeHead_link (l : LaneId) : (s.judgeHead l).link = s.link := by
  unfold State.judgeHead; split <;> [skip; split_ifs] <;> simp
@[simp] theorem judgeHead_restartPending (l : LaneId) : (s.judgeHead l).restartPending = s.restartPending := by
  unfold State.judgeHead; split <;> [skip; split_ifs] <;> simp
@[simp] theorem judgeHead_resetLow (l : LaneId) : (s.judgeHead l).resetLow = s.resetLow := by
  unfold State.judgeHead; split <;> [skip; split_ifs] <;> simp
@[simp] theorem judgeHead_pending (l : LaneId) : (s.judgeHead l).pending = s.pending := by
  unfold State.judgeHead; split <;> [skip; split_ifs] <;> simp
@[simp] theorem updateNeed_time (l : LaneId) : (s.updateNeed l).time = s.time := by
  unfold State.updateNeed; split <;> [skip; split_ifs] <;> simp
@[simp] theorem updateNeed_link (l : LaneId) : (s.updateNeed l).link = s.link := by
  unfold State.updateNeed; split <;> [skip; split_ifs] <;> simp
@[simp] theorem updateNeed_restartPending (l : LaneId) : (s.updateNeed l).restartPending = s.restartPending := by
  unfold State.updateNeed; split <;> [skip; split_ifs] <;> simp
@[simp] theorem updateNeed_resetLow (l : LaneId) : (s.updateNeed l).resetLow = s.resetLow := by
  unfold State.updateNeed; split <;> [skip; split_ifs] <;> simp
@[simp] theorem updateNeed_pending (l : LaneId) : (s.updateNeed l).pending = s.pending := by
  unfold State.updateNeed; split <;> [skip; split_ifs] <;> simp
@[simp] theorem updateNeed_notices (l : LaneId) : (s.updateNeed l).notices = s.notices := by
  unfold State.updateNeed; split <;> [skip; split_ifs] <;> simp
@[simp] theorem headChanged_time (l : LaneId) : (s.headChanged l).time = s.time := by
  unfold State.headChanged; split <;> simp
@[simp] theorem headChanged_link (l : LaneId) : (s.headChanged l).link = s.link := by
  unfold State.headChanged; split <;> simp
@[simp] theorem headChanged_restartPending (l : LaneId) : (s.headChanged l).restartPending = s.restartPending := by
  unfold State.headChanged; split <;> simp
@[simp] theorem headChanged_resetLow (l : LaneId) : (s.headChanged l).resetLow = s.resetLow := by
  unfold State.headChanged; split <;> simp
@[simp] theorem headChanged_pending (l : LaneId) : (s.headChanged l).pending = s.pending := by
  unfold State.headChanged; split <;> simp
@[simp] theorem stopWaiting_time (l : LaneId) : (s.stopWaiting l).time = s.time := by
  unfold State.stopWaiting; split <;> simp
@[simp] theorem stopWaiting_link (l : LaneId) : (s.stopWaiting l).link = s.link := by
  unfold State.stopWaiting; split <;> simp
@[simp] theorem stopWaiting_restartPending (l : LaneId) : (s.stopWaiting l).restartPending = s.restartPending := by
  unfold State.stopWaiting; split <;> simp
@[simp] theorem stopWaiting_resetLow (l : LaneId) : (s.stopWaiting l).resetLow = s.resetLow := by
  unfold State.stopWaiting; split <;> simp
@[simp] theorem stopWaiting_pending (l : LaneId) : (s.stopWaiting l).pending = s.pending := by
  unfold State.stopWaiting; split <;> simp
@[simp] theorem stopWaiting_notices (l : LaneId) : (s.stopWaiting l).notices = s.notices := by
  unfold State.stopWaiting; split <;> simp
@[simp] theorem stopWaiting_table (l : LaneId) : (s.stopWaiting l).table = s.table := by
  unfold State.stopWaiting; split <;> simp
@[simp] theorem leaveWait_time (l : LaneId) : (s.leaveWait l).time = s.time := by
  unfold State.leaveWait; split_ifs <;> simp
@[simp] theorem leaveWait_link (l : LaneId) : (s.leaveWait l).link = s.link := by
  unfold State.leaveWait; split_ifs <;> simp
@[simp] theorem leaveWait_restartPending (l : LaneId) : (s.leaveWait l).restartPending = s.restartPending := by
  unfold State.leaveWait; split_ifs <;> simp
@[simp] theorem leaveWait_resetLow (l : LaneId) : (s.leaveWait l).resetLow = s.resetLow := by
  unfold State.leaveWait; split_ifs <;> simp
@[simp] theorem leaveWait_pending (l : LaneId) : (s.leaveWait l).pending = s.pending := by
  unfold State.leaveWait; split_ifs <;> simp
@[simp] theorem leaveWait_notices (l : LaneId) : (s.leaveWait l).notices = s.notices := by
  unfold State.leaveWait; split_ifs <;> simp

/-! #### records becoming terminal -/

@[simp] theorem endRecord_time (t : Ticket) (st : RecordState) (c : Cause) (k : Option Byte) : (s.endRecord t st c k).time = s.time := by
  unfold State.endRecord; split <;> simp
@[simp] theorem endRecord_link (t : Ticket) (st : RecordState) (c : Cause) (k : Option Byte) : (s.endRecord t st c k).link = s.link := by
  unfold State.endRecord; split <;> simp
@[simp] theorem endRecord_restartPending (t : Ticket) (st : RecordState) (c : Cause) (k : Option Byte) : (s.endRecord t st c k).restartPending = s.restartPending := by
  unfold State.endRecord; split <;> simp
@[simp] theorem endRecord_resetLow (t : Ticket) (st : RecordState) (c : Cause) (k : Option Byte) : (s.endRecord t st c k).resetLow = s.resetLow := by
  unfold State.endRecord; split <;> simp
@[simp] theorem endRecord_pending (t : Ticket) (st : RecordState) (c : Cause) (k : Option Byte) : (s.endRecord t st c k).pending = s.pending := by
  unfold State.endRecord; split <;> simp
@[simp] theorem endRecord_notices (t : Ticket) (st : RecordState) (c : Cause) (k : Option Byte) : (s.endRecord t st c k).notices = s.notices := by
  unfold State.endRecord; split <;> simp
@[simp] theorem endRecord_lanes (t : Ticket) (st : RecordState) (c : Cause) (k : Option Byte) : (s.endRecord t st c k).lanes = s.lanes := by
  unfold State.endRecord; split <;> simp
@[simp] theorem completeRecord_time (t : Ticket) (n : Nat) : (s.completeRecord t n).time = s.time := by
  unfold State.completeRecord; split <;> simp
@[simp] theorem completeRecord_link (t : Ticket) (n : Nat) : (s.completeRecord t n).link = s.link := by
  unfold State.completeRecord; split <;> simp
@[simp] theorem completeRecord_restartPending (t : Ticket) (n : Nat) : (s.completeRecord t n).restartPending = s.restartPending := by
  unfold State.completeRecord; split <;> simp
@[simp] theorem completeRecord_resetLow (t : Ticket) (n : Nat) : (s.completeRecord t n).resetLow = s.resetLow := by
  unfold State.completeRecord; split <;> simp
@[simp] theorem completeRecord_pending (t : Ticket) (n : Nat) : (s.completeRecord t n).pending = s.pending := by
  unfold State.completeRecord; split <;> simp
@[simp] theorem completeRecord_notices (t : Ticket) (n : Nat) : (s.completeRecord t n).notices = s.notices := by
  unfold State.completeRecord; split <;> simp
@[simp] theorem completeRecord_lanes (t : Ticket) (n : Nat) : (s.completeRecord t n).lanes = s.lanes := by
  unfold State.completeRecord; split <;> simp

/-! #### outcomes of an attempt -/

@[simp] theorem stopBusy_time (l : LaneId) (t : Ticket) : (s.stopBusy l t).time = s.time := by
  unfold State.stopBusy; dsimp only; split <;> simp
@[simp] theorem stopBusy_link (l : LaneId) (t : Ticket) : (s.stopBusy l t).link = s.link := by
  unfold State.stopBusy; dsimp only; split <;> simp
@[simp] theorem stopBusy_restartPending (l : LaneId) (t : Ticket) : (s.stopBusy l t).restartPending = s.restartPending := by
  unfold State.stopBusy; dsimp only; split <;> simp
@[simp] theorem stopBusy_resetLow (l : LaneId) (t : Ticket) : (s.stopBusy l t).resetLow = s.resetLow := by
  unfold State.stopBusy; dsimp only; split <;> simp
@[simp] theorem stopBusy_pending (l : LaneId) (t : Ticket) : (s.stopBusy l t).pending = s.pending := by
  unfold State.stopBusy; dsimp only; split <;> simp
@[simp] theorem failRecord_time (l : LaneId) (t : Ticket) (c : Cause) (k : Option Byte) (u : Bool) : (s.failRecord l t c k u).time = s.time := by
  unfold State.failRecord; dsimp only; split_ifs <;> simp
@[simp] theorem failRecord_link (l : LaneId) (t : Ticket) (c : Cause) (k : Option Byte) (u : Bool) : (s.failRecord l t c k u).link = s.link := by
  unfold State.failRecord; dsimp only; split_ifs <;> simp
@[simp] theorem failRecord_restartPending (l : LaneId) (t : Ticket) (c : Cause) (k : Option Byte) (u : Bool) : (s.failRecord l t c k u).restartPending = s.restartPending := by
  unfold State.failRecord; dsimp only; split_ifs <;> simp
@[simp] theorem failRecord_resetLow (l : LaneId) (t : Ticket) (c : Cause) (k : Option Byte) (u : Bool) : (s.failRecord l t c k u).resetLow = s.resetLow := by
  unfold State.failRecord; dsimp only; split_ifs <;> simp
@[simp] theorem failRecord_pending (l : LaneId) (t : Ticket) (c : Cause) (k : Option Byte) (u : Bool) : (s.failRecord l t c k u).pending = s.pending := by
  unfold State.failRecord; dsimp only; split_ifs <;> simp
@[simp] theorem cancelActive_time (l : LaneId) (t : Ticket) (u : Bool) : (s.cancelActive l t u).time = s.time := by
  unfold State.cancelActive; simp
@[simp] theorem cancelActive_link (l : LaneId) (t : Ticket) (u : Bool) : (s.cancelActive l t u).link = s.link := by
  unfold State.cancelActive; simp
@[simp] theorem cancelActive_restartPending (l : LaneId) (t : Ticket) (u : Bool) : (s.cancelActive l t u).restartPending = s.restartPending := by
  unfold State.cancelActive; simp
@[simp] theorem cancelActive_resetLow (l : LaneId) (t : Ticket) (u : Bool) : (s.cancelActive l t u).resetLow = s.resetLow := by
  unfold State.cancelActive; simp
@[simp] theorem cancelActive_pending (l : LaneId) (t : Ticket) (u : Bool) : (s.cancelActive l t u).pending = s.pending := by
  unfold State.cancelActive; simp
@[simp] theorem takeMiss_time (l : LaneId) (b : Bool) : (s.takeMiss l b).time = s.time := by
  unfold State.takeMiss; split <;> [rfl; skip]; split <;> [rfl; skip]; dsimp only; split_ifs <;> simp
@[simp] theorem takeMiss_link (l : LaneId) (b : Bool) : (s.takeMiss l b).link = s.link := by
  unfold State.takeMiss; split <;> [rfl; skip]; split <;> [rfl; skip]; dsimp only; split_ifs <;> simp
@[simp] theorem takeMiss_restartPending (l : LaneId) (b : Bool) : (s.takeMiss l b).restartPending = s.restartPending := by
  unfold State.takeMiss; split <;> [rfl; skip]; split <;> [rfl; skip]; dsimp only; split_ifs <;> simp
@[simp] theorem takeMiss_resetLow (l : LaneId) (b : Bool) : (s.takeMiss l b).resetLow = s.resetLow := by
  unfold State.takeMiss; split <;> [rfl; skip]; split <;> [rfl; skip]; dsimp only; split_ifs <;> simp
@[simp] theorem takeMiss_pending (l : LaneId) (b : Bool) : (s.takeMiss l b).pending = s.pending := by
  unfold State.takeMiss; split <;> [rfl; skip]; split <;> [rfl; skip]; dsimp only; split_ifs <;> simp
@[simp] theorem takeBusy_time (l : LaneId) (t : Ticket) (r : Record) : (s.takeBusy l t r).time = s.time := by
  unfold State.takeBusy; dsimp only; split_ifs <;> simp
@[simp] theorem takeBusy_link (l : LaneId) (t : Ticket) (r : Record) : (s.takeBusy l t r).link = s.link := by
  unfold State.takeBusy; dsimp only; split_ifs <;> simp
@[simp] theorem takeBusy_restartPending (l : LaneId) (t : Ticket) (r : Record) : (s.takeBusy l t r).restartPending = s.restartPending := by
  unfold State.takeBusy; dsimp only; split_ifs <;> simp
@[simp] theorem takeBusy_resetLow (l : LaneId) (t : Ticket) (r : Record) : (s.takeBusy l t r).resetLow = s.resetLow := by
  unfold State.takeBusy; dsimp only; split_ifs <;> simp
@[simp] theorem takeBusy_pending (l : LaneId) (t : Ticket) (r : Record) : (s.takeBusy l t r).pending = s.pending := by
  unfold State.takeBusy; dsimp only; split_ifs <;> simp
@[simp] theorem takeReject_time (l : LaneId) (t : Ticket) (k : Byte) : (s.takeReject l t k).time = s.time := by
  unfold State.takeReject; simp
@[simp] theorem takeReject_link (l : LaneId) (t : Ticket) (k : Byte) : (s.takeReject l t k).link = s.link := by
  unfold State.takeReject; simp
@[simp] theorem takeReject_restartPending (l : LaneId) (t : Ticket) (k : Byte) : (s.takeReject l t k).restartPending = s.restartPending := by
  unfold State.takeReject; simp
@[simp] theorem takeReject_resetLow (l : LaneId) (t : Ticket) (k : Byte) : (s.takeReject l t k).resetLow = s.resetLow := by
  unfold State.takeReject; simp
@[simp] theorem takeReject_pending (l : LaneId) (t : Ticket) (k : Byte) : (s.takeReject l t k).pending = s.pending := by
  unfold State.takeReject; simp
@[simp] theorem takeOversize_time (l : LaneId) (t : Ticket) (r : Record) : (s.takeOversize l t r).time = s.time := by
  unfold State.takeOversize; simp
@[simp] theorem takeOversize_link (l : LaneId) (t : Ticket) (r : Record) : (s.takeOversize l t r).link = s.link := by
  unfold State.takeOversize; simp
@[simp] theorem takeOversize_restartPending (l : LaneId) (t : Ticket) (r : Record) : (s.takeOversize l t r).restartPending = s.restartPending := by
  unfold State.takeOversize; simp
@[simp] theorem takeOversize_resetLow (l : LaneId) (t : Ticket) (r : Record) : (s.takeOversize l t r).resetLow = s.resetLow := by
  unfold State.takeOversize; simp
@[simp] theorem takeOversize_pending (l : LaneId) (t : Ticket) (r : Record) : (s.takeOversize l t r).pending = s.pending := by
  unfold State.takeOversize; simp
@[simp] theorem completeActive_time (l : LaneId) (t : Ticket) (r : Record) (n : Nat) : (s.completeActive l t r n).time = s.time := by
  unfold State.completeActive; dsimp only; split <;> simp
@[simp] theorem completeActive_link (l : LaneId) (t : Ticket) (r : Record) (n : Nat) : (s.completeActive l t r n).link = s.link := by
  unfold State.completeActive; dsimp only; split <;> simp
@[simp] theorem completeActive_restartPending (l : LaneId) (t : Ticket) (r : Record) (n : Nat) : (s.completeActive l t r n).restartPending = s.restartPending := by
  unfold State.completeActive; dsimp only; split <;> simp
@[simp] theorem completeActive_resetLow (l : LaneId) (t : Ticket) (r : Record) (n : Nat) : (s.completeActive l t r n).resetLow = s.resetLow := by
  unfold State.completeActive; dsimp only; split <;> simp
@[simp] theorem completeActive_pending (l : LaneId) (t : Ticket) (r : Record) (n : Nat) : (s.completeActive l t r n).pending = s.pending := by
  unfold State.completeActive; dsimp only; split <;> simp

/-! #### answers and reports -/

@[simp] theorem storeReply_time (l : LaneId) (f : RxFrame) (bs : List Byte) : (s.storeReply l f bs).time = s.time := by
  unfold State.storeReply; split_ifs <;> [split; skip] <;> simp
@[simp] theorem storeReply_link (l : LaneId) (f : RxFrame) (bs : List Byte) : (s.storeReply l f bs).link = s.link := by
  unfold State.storeReply; split_ifs <;> [split; skip] <;> simp
@[simp] theorem storeReply_restartPending (l : LaneId) (f : RxFrame) (bs : List Byte) : (s.storeReply l f bs).restartPending = s.restartPending := by
  unfold State.storeReply; split_ifs <;> [split; skip] <;> simp
@[simp] theorem storeReply_resetLow (l : LaneId) (f : RxFrame) (bs : List Byte) : (s.storeReply l f bs).resetLow = s.resetLow := by
  unfold State.storeReply; split_ifs <;> [split; skip] <;> simp
@[simp] theorem storeReply_pending (l : LaneId) (f : RxFrame) (bs : List Byte) : (s.storeReply l f bs).pending = s.pending := by
  unfold State.storeReply; split_ifs <;> [split; skip] <;> simp
@[simp] theorem storeReply_notices (l : LaneId) (f : RxFrame) (bs : List Byte) : (s.storeReply l f bs).notices = s.notices := by
  unfold State.storeReply; split_ifs <;> [split; skip] <;> simp
@[simp] theorem storeReply_pool (l : LaneId) (f : RxFrame) (bs : List Byte) : (s.storeReply l f bs).pool = s.pool := by
  unfold State.storeReply; split_ifs <;> [split; skip] <;> simp
@[simp] theorem storeReply_lanes (l : LaneId) (f : RxFrame) (bs : List Byte) : (s.storeReply l f bs).lanes = s.lanes := by
  unfold State.storeReply; split_ifs <;> [split; skip] <;> simp
@[simp] theorem judgeAnswer_time (l : LaneId) (c : Byte) (p : List Byte) : (s.judgeAnswer l c p).time = s.time := by
  unfold State.judgeAnswer; split_ifs <;> [skip; simp]; split <;> [rfl; skip]; split <;> [rfl; skip]; split <;> (try split_ifs) <;> simp
@[simp] theorem judgeAnswer_link (l : LaneId) (c : Byte) (p : List Byte) : (s.judgeAnswer l c p).link = s.link := by
  unfold State.judgeAnswer; split_ifs <;> [skip; simp]; split <;> [rfl; skip]; split <;> [rfl; skip]; split <;> (try split_ifs) <;> simp
@[simp] theorem judgeAnswer_restartPending (l : LaneId) (c : Byte) (p : List Byte) : (s.judgeAnswer l c p).restartPending = s.restartPending := by
  unfold State.judgeAnswer; split_ifs <;> [skip; simp]; split <;> [rfl; skip]; split <;> [rfl; skip]; split <;> (try split_ifs) <;> simp
@[simp] theorem judgeAnswer_resetLow (l : LaneId) (c : Byte) (p : List Byte) : (s.judgeAnswer l c p).resetLow = s.resetLow := by
  unfold State.judgeAnswer; split_ifs <;> [skip; simp]; split <;> [rfl; skip]; split <;> [rfl; skip]; split <;> (try split_ifs) <;> simp
@[simp] theorem judgeAnswer_pending (l : LaneId) (c : Byte) (p : List Byte) : (s.judgeAnswer l c p).pending = s.pending := by
  unfold State.judgeAnswer; split_ifs <;> [skip; simp]; split <;> [rfl; skip]; split <;> [rfl; skip]; split <;> (try split_ifs) <;> simp
@[simp] theorem damagedFrame_time (l : LaneId) (e r : Bool) : (s.damagedFrame l e r).time = s.time := by
  unfold State.damagedFrame; split_ifs <;> simp
@[simp] theorem damagedFrame_link (l : LaneId) (e r : Bool) : (s.damagedFrame l e r).link = s.link := by
  unfold State.damagedFrame; split_ifs <;> simp
@[simp] theorem damagedFrame_restartPending (l : LaneId) (e r : Bool) : (s.damagedFrame l e r).restartPending = s.restartPending := by
  unfold State.damagedFrame; split_ifs <;> simp
@[simp] theorem damagedFrame_resetLow (l : LaneId) (e r : Bool) : (s.damagedFrame l e r).resetLow = s.resetLow := by
  unfold State.damagedFrame; split_ifs <;> simp
@[simp] theorem damagedFrame_pending (l : LaneId) (e r : Bool) : (s.damagedFrame l e r).pending = s.pending := by
  unfold State.damagedFrame; split_ifs <;> simp
@[simp] theorem arriveReport_time (l : LaneId) (bs : List Byte) : (s.arriveReport l bs).time = s.time := by
  unfold State.arriveReport; split_ifs <;> simp
@[simp] theorem arriveReport_link (l : LaneId) (bs : List Byte) : (s.arriveReport l bs).link = s.link := by
  unfold State.arriveReport; split_ifs <;> simp
@[simp] theorem arriveReport_restartPending (l : LaneId) (bs : List Byte) : (s.arriveReport l bs).restartPending = s.restartPending := by
  unfold State.arriveReport; split_ifs <;> simp
@[simp] theorem arriveReport_resetLow (l : LaneId) (bs : List Byte) : (s.arriveReport l bs).resetLow = s.resetLow := by
  unfold State.arriveReport; split_ifs <;> simp
@[simp] theorem arriveReport_pending (l : LaneId) (bs : List Byte) : (s.arriveReport l bs).pending = s.pending := by
  unfold State.arriveReport; split_ifs <;> simp
@[simp] theorem arriveReport_pool (l : LaneId) (bs : List Byte) : (s.arriveReport l bs).pool = s.pool := by
  unfold State.arriveReport; split_ifs <;> simp
@[simp] theorem arriveReport_table (l : LaneId) (bs : List Byte) : (s.arriveReport l bs).table = s.table := by
  unfold State.arriveReport; split_ifs <;> simp
@[simp] theorem haltAbort_time (l : LaneId) (t : Ticket) : (s.haltAbort l t).time = s.time := by
  unfold State.haltAbort; split <;> [rfl; skip]; dsimp only; split_ifs <;> simp
@[simp] theorem haltAbort_link (l : LaneId) (t : Ticket) : (s.haltAbort l t).link = s.link := by
  unfold State.haltAbort; split <;> [rfl; skip]; dsimp only; split_ifs <;> simp
@[simp] theorem haltAbort_restartPending (l : LaneId) (t : Ticket) : (s.haltAbort l t).restartPending = s.restartPending := by
  unfold State.haltAbort; split <;> [rfl; skip]; dsimp only; split_ifs <;> simp
@[simp] theorem haltAbort_resetLow (l : LaneId) (t : Ticket) : (s.haltAbort l t).resetLow = s.resetLow := by
  unfold State.haltAbort; split <;> [rfl; skip]; dsimp only; split_ifs <;> simp
@[simp] theorem haltAbort_pending (l : LaneId) (t : Ticket) : (s.haltAbort l t).pending = s.pending := by
  unfold State.haltAbort; split <;> [rfl; skip]; dsimp only; split_ifs <;> simp

end

/-! ### Requests (R165, R167) -/

/-- The processor takes a request exactly when the three conditions of R167 hold and the row is its own. -/
theorem nextRequest_eq_some {s : State} {row : RequestRow} {q : Request} :
    s.nextRequest row = some q ↔ (∃ rest, Taken s q rest) ∧ requestRow q.body = row := by
  unfold State.nextRequest State.processorReady Config.queueEntries
  cases h : s.link.intake with
  | nil => simp [h]
  | cons p rest => simp [h]; grind

/-- A row whose request is next is executed and answered. -/
theorem takeRequest_of_taken {s : State} {q : Request} {rest : List Request} (h : Taken s q rest)
    (run : List Byte → State → Reply × State) :
    s.takeRequest (requestRow q.body) run =
      (run q.body (s.taken rest)).2.respond q (run q.body (s.taken rest)).1 := by
  have hn : s.nextRequest (requestRow q.body) = some q := nextRequest_eq_some.2 ⟨⟨rest, h⟩, rfl⟩
  have hp : s.popIntake = s.taken rest := by simp [State.popIntake, State.taken, State.onLink, h.1]
  simp [State.takeRequest, hn, hp]

/-- Everything a request command can do: nothing, or take the oldest request of its own row. -/
theorem takeRequest_cases (s : State) (row : RequestRow) (run : List Byte → State → Reply × State) :
    s.takeRequest row run = s ∨ ∃ q rest, Taken s q rest ∧ requestRow q.body = row ∧
      s.takeRequest row run = (run q.body (s.taken rest)).2.respond q (run q.body (s.taken rest)).1 := by
  cases hn : s.nextRequest row with
  | none => simp [State.takeRequest, hn]
  | some q =>
    obtain ⟨⟨rest, h⟩, rfl⟩ := nextRequest_eq_some.1 hn
    exact .inr ⟨q, rest, h, rfl, takeRequest_of_taken h run⟩

/-- A response appended is the request's tag and the reply. -/
theorem respond_eq_appends (s : State) (q : Request) (r : Reply) :
    s.respond q r = s.appends q.tag (q.body.headD 0 :: r.status.code :: r.content) := rfl

/-! ### Notices (R151) -/

/-- Everything the Notice Unit can do with an event. -/
theorem take_cases (e : Event) (time : PartTime) (n : NoticeUnit) :
    n.take e time = n ∧ enabled n.mask e.kind = false ∨
    enabled n.mask e.kind = true ∧ (∃ x ∈ n.entries, e.matches x = true) ∧
      n.take e time = { n with entries := n.entries.map fun x => if e.matches x then e.merge time x else x } ∨
    enabled n.mask e.kind = true ∧ (∀ x ∈ n.entries, e.matches x = false) ∧
      n.take e time = { n with entries := n.entries ++ [e.entry time] } := by
  unfold NoticeUnit.take
  by_cases hm : enabled n.mask e.kind = true
  · by_cases ha : n.entries.any e.matches = true
    · exact .inr (.inl ⟨hm, List.any_eq_true.1 ha, by simp [hm, ha]⟩)
    · have ha' : ∀ x ∈ n.entries, e.matches x = false := by simpa using ha
      exact .inr (.inr ⟨hm, ha', by simp only [hm, if_true, ha]; simp⟩)
  · exact .inl ⟨by simp [hm], by simpa using hm⟩

/-- The mask and the notice number outlast every event. -/
@[simp] theorem take_mask (e : Event) (time : PartTime) (n : NoticeUnit) : (n.take e time).mask = n.mask := by
  unfold NoticeUnit.take; split_ifs <;> rfl

@[simp] theorem take_number (e : Event) (time : PartTime) (n : NoticeUnit) : (n.take e time).number = n.number := by
  unfold NoticeUnit.take; split_ifs <;> rfl

/-! ### The grant scan (R11, R12) -/

/-- A grant leaves the list and makes the lane's head ACTIVE. -/
theorem grant_of_head {s : State} {e : WaitEntry} {r : Record} (h : s.head? e.lane = some r) :
    s.grant e = (s.removeWaiting e.lane).activate e.lane r.ticket e.need := by simp [State.grant, h]

/-- The three rows of R11. -/
theorem scanFrom_cons_cases (s : State) (e : WaitEntry) (es : List WaitEntry) :
    s.capBlocked e = true ∧ s.scanFrom (e :: es) = s.scanFrom es ∨
    s.capBlocked e = false ∧ e.need ≤ s.freeCount ∧ s.scanFrom (e :: es) = (s.grant e).scanFrom es ∨
    s.capBlocked e = false ∧ s.freeCount < e.need ∧ s.scanFrom (e :: es) = s := by
  rw [State.scanFrom]
  by_cases hc : s.capBlocked e = true
  · simp [hc]
  · by_cases hn : e.need ≤ s.freeCount
    · simp [hc, hn]
    · simp [hc, hn]; omega

/-- With nobody waiting the scan ends at once (R10). -/
theorem grantScan_of_nobody {s : State} (h : s.pool.waiting = []) : s.grantScan = s := by
  simp [State.grantScan, h, State.scanFrom]

/-! ### Head selection (R6, R7, R13, R53) -/

/-- No head: the lane is idle. -/
theorem judgeHead_of_none {s : State} {l : LaneId} (h : s.head? l = none) : s.judgeHead l = s.setPhase l .idle := by
  simp [State.judgeHead, h]

/-- A head whose time is not reached. -/
theorem judgeHead_of_early {s : State} {l : LaneId} {r : Record} (h : s.head? l = some r)
    (ht : released s.time r.releaseTime = false) : s.judgeHead l = s.setPhase l .waitTime := by
  simp [State.judgeHead, h, ht]

/-- A head whose time is reached goes on to the reply-space step. -/
theorem judgeHead_of_due {s : State} {l : LaneId} {r : Record} (h : s.head? l = some r)
    (ht : released s.time r.releaseTime = true) : s.judgeHead l = s.spaceStep l r := by
  simp [State.judgeHead, h, ht]

/-- Everything the reply-space step can do. -/
theorem spaceStep_cases (s : State) (l : LaneId) (r : Record) :
    (r.replyNeed = 0 ∨ s.pool.waiting = [] ∧ r.replyNeed ≤ s.freeCount ∧
        s.held l + r.replyNeed ≤ (s.lane l).config.cap) ∧
      s.spaceStep l r = s.activate l r.ticket r.replyNeed ∨
    r.replyNeed ≠ 0 ∧ ∃ u, u = ((s.setPhase l .waitSpace).appendWaiting ⟨l, r.replyNeed⟩).grantScan ∧
      (u.isWaiting l = true ∧ s.spaceStep l r = u.raiseLane l .spaceWait r.ticket (.need r.replyNeed) ∨
       u.isWaiting l = false ∧ s.spaceStep l r = u) := by
  unfold State.spaceStep
  by_cases h0 : r.replyNeed = 0
  · simp [h0]
  · simp only [h0, if_false]
    split_ifs with h1 h2
    · simp only [Bool.and_eq_true, List.isEmpty_iff, decide_eq_true_eq] at h1
      exact .inl ⟨.inr ⟨h1.1.1, h1.1.2, h1.2⟩, rfl⟩
    · exact .inr ⟨h0, _, rfl, .inl ⟨h2, rfl⟩⟩
    · exact .inr ⟨h0, _, rfl, .inr ⟨by simpa using h2, rfl⟩⟩

/-- Everything a head change in WAIT_SPACE can do. -/
theorem updateNeed_cases (s : State) (l : LaneId) :
    s.head? l = none ∧ s.updateNeed l = ((s.removeWaiting l).setPhase l .idle).grantScan ∨
    ∃ r, s.head? l = some r ∧
      (released s.time r.releaseTime = false ∧
          s.updateNeed l = ((s.removeWaiting l).setPhase l .waitTime).grantScan ∨
       released s.time r.releaseTime = true ∧ r.replyNeed = 0 ∧
          s.updateNeed l = ((s.removeWaiting l).activate l r.ticket 0).grantScan ∨
       released s.time r.releaseTime = true ∧ r.replyNeed ≠ 0 ∧ s.updateNeed l = (s.setNeed l r.replyNeed).grantScan) := by
  unfold State.updateNeed
  cases hh : s.head? l with
  | none => simp
  | some r =>
    cases ht : released s.time r.releaseTime <;> by_cases h0 : r.replyNeed = 0 <;> simp [ht, h0]

/-- Everything the re-evaluation at a head change can do. -/
theorem headChanged_cases (s : State) (l : LaneId) :
    (s.lane l).mode = .pass ∧ ((s.lane l).phase = .idle ∨ (s.lane l).phase = .waitTime) ∧ s.headChanged l = s.judgeHead l ∨
    (s.lane l).mode = .pass ∧ (s.lane l).phase = .waitSpace ∧ s.headChanged l = s.updateNeed l ∨
    ¬((s.lane l).mode = .pass ∧
        ((s.lane l).phase = .idle ∨ (s.lane l).phase = .waitTime ∨ (s.lane l).phase = .waitSpace)) ∧
      s.headChanged l = s := by
  unfold State.headChanged
  cases (s.lane l).mode <;> cases (s.lane l).phase <;> simp

/-- Everything a lane that leaves its wait can do. -/
theorem leaveWait_cases (s : State) (l : LaneId) :
    (s.lane l).phase = .waitTime ∧ s.leaveWait l = s.setPhase l .idle ∨
    (s.lane l).phase = .waitSpace ∧ s.leaveWait l = ((s.removeWaiting l).setPhase l .idle).grantScan ∨
    (s.lane l).phase ≠ .waitTime ∧ (s.lane l).phase ≠ .waitSpace ∧ s.leaveWait l = s := by
  unfold State.leaveWait State.stopWaiting
  cases h : (s.lane l).phase <;> simp

/-! ### Outcomes (R15, R16, R29, R75, R80 to R89) -/

/-- A live record that ends FAILED or CANCELLED, field by field. -/
theorem endRecord_eq_ended {s : State} {t : Ticket} {r : Record} (h : s.record? t = some r) (st : RecordState)
    (cause : Cause) (reject : Option Byte) :
    s.endRecord t st cause reject =
      s.ended t (r.payloadChain ++ r.replyChain) (Record.finish st cause reject s.time) := by
  simp [State.endRecord, h, State.ended, Record.finish, State.returnBlocks, State.onPool, State.onRecord, State.onTable]

/-- Everything a lane that stops being busy can do. -/
theorem stopBusy_cases (s : State) (l : LaneId) (t : Ticket) :
    (s.lane l).mode = .pass ∧
      s.stopBusy l t = (s.onLane l fun x => { x with active := none, phase := .idle }).judgeHead l ∨
    (s.lane l).mode ≠ .pass ∧
      s.stopBusy l t = (s.onLane l fun x => { x with active := none, phase := .idle }).raiseLane l .idle t .none := by
  unfold State.stopBusy
  cases (s.lane l).mode <;> simp

/-- Everything a miss can do to an active record: the mark, the retry limit, a retransmission. -/
theorem takeMiss_cases {s : State} {l : LaneId} {t : Ticket} {r : Record} (ha : (s.lane l).active = some t)
    (hr : s.record? t = some r) (reply : Bool) :
    ∃ u, u = (s.onCounters l fun c => { c with missesTotal := satInc 65535 c.missesTotal }).onRecord t (fun x =>
        { x with misses := satInc 255 x.misses, uncertain := true }) ∧
      (r.cancelMark = true ∧ s.takeMiss l reply = u.cancelActive l t true ∨
       r.cancelMark = false ∧ (s.lane l).config.retryLimit < satInc 255 r.misses ∧
         s.takeMiss l reply = u.failRecord l t .noAnswer none true ∨
       r.cancelMark = false ∧ satInc 255 r.misses ≤ (s.lane l).config.retryLimit ∧
         s.takeMiss l reply = u.onLane l fun x => { x with phase := .waitSlot, ready := if reply then .nreq else .data }) := by
  refine ⟨_, rfl, ?_⟩
  simp only [State.takeMiss, ha, hr]
  by_cases hc : r.cancelMark = true
  · simp [hc]
  · by_cases hl : (s.lane l).config.retryLimit < satInc 255 r.misses
    · simp [hc, hl]
    · simp [hc, hl]; omega

/-- Without an active message, or without its record, a miss does nothing. -/
theorem takeMiss_of_none {s : State} {l : LaneId} (h : (s.lane l).active.bind s.record? = none) (reply : Bool) :
    s.takeMiss l reply = s := by
  unfold State.takeMiss
  cases ha : (s.lane l).active with
  | none => rfl
  | some t => rw [ha] at h; simp at h; simp [h]

/-- A count that stops at `top`, as a minimum. -/
theorem satInc_eq_min (top n : Nat) : satInc top n = min top (n + 1) := by unfold satInc; split <;> omega

/-- A count that stops at `top` never exceeds it. -/
theorem satInc_le (top n : Nat) : satInc top n ≤ top := by unfold satInc; split <;> omega

/-! ### Outcomes, field by field -/

/-- An update of a lane that reads the lane is the lane replaced. -/
theorem onLane_eq_withLane (s : State) (l : LaneId) (f : Lane → Lane) : s.onLane l f = s.withLane l (f (s.lane l)) := rfl

/-- The last replacement of a lane is the one that stands. -/
theorem withLane_withLane (s : State) (l : LaneId) (x y : Lane) : (s.withLane l x).withLane l y = s.withLane l y := by
  simp [State.withLane]

@[simp] theorem lane_withLane_self (s : State) (l : LaneId) (x : Lane) : (s.withLane l x).lane l = x :=
  lane_onLane_self s l fun _ => x

/-- A lane that stops being busy stands in IDLE without active message, and comes to rest. -/
theorem stopBusy_eq (s : State) (l : LaneId) (t : Ticket) :
    s.stopBusy l t = (s.withLane l { s.lane l with active := none, phase := .idle }).comesToRest l t := by
  unfold State.comesToRest
  rw [lane_withLane_self]
  rcases stopBusy_cases s l t with ⟨h, e⟩ | ⟨h, e⟩
  · exact e.trans (if_pos h).symm
  · exact e.trans (if_neg h).symm

/-- The end of an active record by its mark, field by field. -/
theorem cancelActive_eq {s : State} {l : LaneId} {t : Ticket} {r : Record} (h : s.record? t = some r) (unsure : Bool) :
    s.cancelActive l t unsure = s.cancelledBy l t r unsure := by
  simp only [State.cancelActive, State.cancelledBy, endRecord_eq_ended h, stopBusy_eq, State.markResync, onLane_eq_withLane,
    lane_withLane_self, withLane_withLane]

/-- The failure of an active record, field by field. -/
theorem failRecord_eq {s : State} {l : LaneId} {t : Ticket} {r : Record} (h : s.record? t = some r) (cause : Cause)
    (reject : Option Byte) (unsure : Bool) :
    s.failRecord l t cause reject unsure = s.failedWith l t r cause reject unsure (selfHalts (s.lane l).config cause) := by
  have hr : ∀ (u : State) (x : Lane) (e : Event), (u.withLane l x).raise e = (u.raise e).withLane l x := fun _ _ _ => rfl
  simp only [State.failRecord, State.failedWith, endRecord_eq_ended h, stopBusy_eq, State.markResync, State.onCounters,
    State.setMode, onLane_eq_withLane, satInc_eq_min]
  cases selfHalts (s.lane l).config cause <;>
    simp only [if_true, hr, lane_withLane_self, withLane_withLane, Bool.false_eq_true, if_false]

/-- Reading a record after an update of it that keeps its ticket. -/
theorem record?_onRecord_self {s : State} {t : Ticket} {r : Record} (h : s.record? t = some r) (f : Record → Record)
    (hf : ∀ x, (f x).ticket = x.ticket) : (s.onRecord t f).record? t = some (f r) := by
  have key : ∀ rs : List Record, rs.find? (fun r => r.ticket == t) = some r →
      (rs.map fun r => if r.ticket = t then f r else r).find? (fun r => r.ticket == t) = some (f r) := by
    intro rs
    induction rs with
    | nil => simp
    | cons a rs ih =>
      by_cases ha : a.ticket = t
      · simp [ha, hf]; rintro rfl; rfl
      · simpa [ha] using ih
  exact key _ h

/-- A miss of an active record, field by field. -/
theorem takeMiss_eq {s : State} {l : LaneId} {t : Ticket} {r : Record} (ha : (s.lane l).active = some t)
    (hr : s.record? t = some r) (reply : Bool) :
    s.takeMiss l reply = s.missed l t r (if reply then .nreq else .data) := by
  obtain ⟨u, hu, hc⟩ := takeMiss_cases ha hr reply
  have hu' := hu
  simp only [satInc_eq_min] at hu'
  have hr' : u.record? t = some { r with misses := satInc 255 r.misses, uncertain := true } := by
    rw [hu]; exact record?_onRecord_self (s := s.onCounters l _) hr _ fun _ => rfl
  have hl : (u.lane l).config = (s.lane l).config := by
    rw [hu, lane_onRecord, lane_onCounters, if_pos rfl]
  unfold State.missed
  rcases hc with ⟨hm, e⟩ | ⟨hm, hlim, e⟩ | ⟨hm, hlim, e⟩
  · rw [e, cancelActive_eq hr', hu', if_pos hm]; rfl
  · rw [satInc_eq_min] at hlim
    rw [e, failRecord_eq hr', hl, hu', if_neg (by simp [hm]), if_pos hlim]; rfl
  · rw [satInc_eq_min] at hlim
    rw [e, hu']
    exact ((if_neg (by simp [hm])).trans (if_neg (by omega))).symm

/-! ### Bytes -/

@[simp] theorem bytesOf_length (k n : Nat) : (bytesOf k n).length = k := by
  induction k generalizing n with
  | zero => rfl
  | succ k ih => simp [bytesOf, ih]

/-- A 16-bit field reads back. -/
theorem natOf_bytesOf_two {n : Nat} (h : n < 65536) : natOf (bytesOf 2 n) = n := by simp [natOf, bytesOf]; omega

/-- Two bytes as a number. -/
theorem natOf_pair (a b : Byte) : natOf [a, b] = a.toNat * 256 + b.toNat := by simp [natOf]

/-- The check of a prefix and more is the check continued. -/
theorem crcMore_append (reg : BitVec 16) (a b : List Byte) : crcMore reg (a ++ b) = crcMore (crcMore reg a) b := by
  simp [crcMore, List.foldl_append]

@[simp] theorem checkBytes_length (c : BitVec 16) : (checkBytes c).length = 2 := by simp [checkBytes]

/-! ### Characters on a line (R112, R160) -/

@[simp] theorem charLevels_length (b : Byte) : (charLevels b).length = 10 := rfl

@[simp] theorem frameLevels_length (frame : List Byte) : (frameLevels frame).length = 10 * frame.length := by
  induction frame with
  | nil => rfl
  | cons b frame ih =>
    have : frameLevels (b :: frame) = charLevels b ++ frameLevels frame := rfl
    simp [this, ih]; omega

/-- Bit time `j` of character `i` of a frame is bit time `j` of that character. -/
theorem frameLevels_getD {frame : List Byte} {i j : Nat} {b : Byte} (hi : frame[i]? = some b) (hj : j < 10) :
    (frameLevels frame).getD (10 * i + j) true = (charLevels b).getD j true := by
  induction frame generalizing i with
  | nil => simp at hi
  | cons a frame ih =>
    have hc : frameLevels (a :: frame) = charLevels a ++ frameLevels frame := rfl
    cases i with
    | zero =>
      obtain rfl : a = b := by simpa using hi
      rw [hc, List.getD_append _ _ _ _ (by simpa using hj)]; simp
    | succ i =>
      rw [hc, List.getD_append_right _ _ _ _ (by simp; omega)]
      have : 10 * (i + 1) + j - (charLevels a).length = 10 * i + j := by simp; omega
      rw [this]; exact ih (by simpa using hi)

/-! ### The control link (R171, R172, R179) -/

/-- Everything a break can do: nothing, the reset of a pending RESTART, or the cut of the link. -/
theorem linkBreak_cases (s : State) :
    s.breakDue = false ∧ s.linkBreak = s ∨
    s.breakDue = true ∧ s.restartPending = true ∧
      s.linkBreak = State.afterReset .restart s.link.straps true s.pending ∨
    s.breakDue = true ∧ s.restartPending = false ∧ s.linkBreak = s.onLink fun k =>
      { k with framer := .stopped, gapWatch := 0, breakDetected := true, hrxLow := true, intake := [], responses := [],
               tx := .held } := by
  unfold State.linkBreak State.restartReset
  cases s.breakDue <;> cases s.restartPending <;> simp

/-- Everything the end of a control frame can do: nothing, a free transmitter, or the reset of a RESTART. -/
theorem controlFrameSent_cases (s : State) :
    (s.link.tx = .free ∨ s.link.tx = .held) ∧ s.controlFrameSent = s ∨
    (∃ f, s.link.tx = .sendingResponse f) ∧ s.restartDue = true ∧
      s.controlFrameSent = State.afterReset .restart s.link.straps s.link.hrxLow s.pending ∨
    ((∃ f, s.link.tx = .sendingNotice f) ∨ (∃ f, s.link.tx = .sendingResponse f) ∧ s.restartDue = false) ∧
      s.controlFrameSent = s.onLink fun k => { k with tx := .free } := by
  unfold State.controlFrameSent State.restartReset ControlLink.pins
  cases s.link.tx <;> cases s.restartDue <;> simp

/-! ### The receiver of a Drop Port (R116) -/

/-- Everything a gap can do: nothing within the limit or outside a frame, the cut beyond it. -/
theorem gapCut_cases (s : State) (l : LaneId) (cut : GapCut) :
    (s.lane l).gapOver cut.since = false ∧ s.gapCut l cut = s ∨
    (s.lane l).gapOver cut.since = true ∧ s.gapCut l cut = s.cutFrame l cut.taken := by
  unfold State.gapCut
  cases (s.lane l).gapOver cut.since <;> simp

@[simp] theorem linkReset_lanes (s : State) : s.linkReset.lanes = s.lanes := by
  unfold State.linkReset; split_ifs <;> simp
@[simp] theorem linkReset_table (s : State) : s.linkReset.table = s.table := by
  unfold State.linkReset; split_ifs <;> simp
@[simp] theorem seeHrx_lanes (s : State) (h : HrxSample) : (s.seeHrx h).lanes = s.lanes := by
  unfold State.seeHrx; split_ifs <;> simp
@[simp] theorem seeHrx_table (s : State) (h : HrxSample) : (s.seeHrx h).table = s.table := by
  unfold State.seeHrx; split_ifs <;> simp

/-! ### Settling (log 4) -/

/-- Where no timed step is due and no pause exceeds the gap limit, an advance is preceded by the return of HRX alone. -/
theorem settle_of_settled {s : State} {p : TickSample} (h : s.settled = true)
    (hg : ∀ l : LaneId, (s.lane l).gapOver (p.drx.get l).lead = false) : s.settle p = s.seeHrx p.hrx := by
  have hl : ∀ l : LaneId, s.settleLane l = s ∧ s.startDue l = false := by
    intro l
    have hm : l ∈ allLanes := by revert l; decide
    have hs := (List.all_eq_true.1 (by simp only [State.settled, Bool.and_eq_true] at h; exact h.1.1.1)) l hm
    simp only [State.laneSettled, Bool.and_eq_true, Bool.not_eq_true'] at hs
    obtain ⟨⟨⟨⟨⟨⟨h1, h2⟩, h3⟩, h4⟩, h5⟩, h6⟩, h7⟩ := hs
    exact ⟨by simp [State.settleLane, State.creditEarned, h1, State.ackExpiry, h2, State.backoffExpiry, h3,
        State.dropBreakEnd, h4, State.dropResetEnd, h5, State.releaseReached, h6], h7⟩
  have fold : ∀ (u : State) (g : State → LaneId → State) (ls : List LaneId), (∀ l, g u l = u) → ls.foldl g u = u := by
    intro u g ls hg
    induction ls with
    | nil => rfl
    | cons a ls ih => simpa [hg a] using ih
  have hlane : ∀ l : LaneId, (s.seeHrx p.hrx).lane l = s.lane l := fun l => by simp [State.lane]
  simp only [State.settled, Bool.and_eq_true, Bool.not_eq_true'] at h
  unfold State.settle
  rw [fold s (fun s l => s.settleLane l) allLanes fun l => (hl l).1]
  have h2 : s.quietExpiry = s := by simp [State.quietExpiry, h.1.1.2]
  have h3 : s.controlGap = s := by simp [State.controlGap, h.1.2]
  have h4 : s.linkBreak = s := by simp [State.linkBreak, h.2]
  simp only [h2, h3, h4]
  rw [fold _ (fun s l => s.gapCut l ⟨[], (p.drx.get l).lead⟩) allLanes fun l => by simp [State.gapCut, hlane l, hg l]]
  refine fold _ (fun s l => s.startFrame l) allLanes fun l => ?_
  have : (s.seeHrx p.hrx).startDue l = s.startDue l := by
    unfold State.startDue State.record?
    simp only [hlane, seeHrx_table]
  simp [State.startFrame, this, (hl l).2]

end Sys2Proof.Machine
end

