-- ==== Sys2Proof/WellFormed.lean ====
section
/-! DEFINITION. Which commands can come about at all, judged on the command alone. The bounds are those of
the frames (R112, R161, R162, R196), of the tick (R98) and of one line that cannot be in two states at once. -/

namespace Sys2Proof

/-- A sample of HRX that one line can show: a line that is high now was high; a character that is
arriving now was seen. -/
def HrxSample.wellFormed (h : HrxSample) : Bool :=
  (h.low || h.wasHigh) && (!h.charNow || h.charSeen)

/-- A sample of DRXn that one line can show over one tick: 240 periods without a character, or a first pause and a last
pause that fit into the tick. -/
def DrxSample.wellFormed (d : DrxSample) : Bool :=
  match d.tail with
  | none => d.lead == Config.tickPeriods
  | some n => d.lead + n ≤ Config.tickPeriods

/-- Samples that the input lines can show at one advance. -/
def TickSample.wellFormed (p : TickSample) : Bool := p.hrx.wellFormed && p.drx.all DrxSample.wellFormed

/-- The characters of a frame that a command brings after the frame's length. -/
def Instr.chars : Instr → List Byte
  | .controlFrameEnd chars | .dropFrameEnd _ chars | .dropGapCut _ ⟨chars, _⟩ | .dropFramingFault _ chars => chars
  | .identify | .partStatus | .partConfig | .restart | .laneConfig | .laneModeHold | .laneModePass
  | .laneModeHalt | .laneStatus | .laneFlush | .laneReseqForce | .laneReseqMark | .dropReset | .submit
  | .cancel | .query | .replyRead | .collect | .retire | .reportTake | .unknownRequest
  | .controlHeaderTaken _ _ | .controlFrameGap | .linkBreak | .linkReset | .hostQuietExpiry
  | .responseStart | .noticeStart | .controlFrameSent | .restartReset _ | .pinReset _ _ | .tick _
  | .slotCreditEarned _ | .releaseTimeReached _ | .transmissionStart _ | .dropFrameSent _
  | .dropHeaderTaken _ _ _ _ | .ackTimeout _ | .backoffExpiry _ | .dropResetBreakEnd _
  | .dropResetEnd _ | .dropStartByte _ | .controlStartByte => []

/-- The check of a command. The part's own meaning does not depend on it: `exec` is total, and a
command that fails it describes nothing the lines can carry. -/
def Instr.wellFormed : Instr → Bool
  | .controlFrameEnd chars => 5 ≤ chars.length && chars.length ≤ 562
  | .dropFrameEnd _ chars => 2 ≤ chars.length && chars.length ≤ 514
  | .dropGapCut _ cut => cut.taken.length ≤ 513 && cut.since ≤ Config.tickPeriods
  | .dropFramingFault _ taken => taken.length ≤ 513
  | .tick pins => pins.wellFormed
  | .identify | .partStatus | .partConfig | .restart | .laneConfig | .laneModeHold | .laneModePass
  | .laneModeHalt | .laneStatus | .laneFlush | .laneReseqForce | .laneReseqMark | .dropReset | .submit
  | .cancel | .query | .replyRead | .collect | .retire | .reportTake | .unknownRequest
  | .controlHeaderTaken _ _ | .controlFrameGap | .linkBreak | .linkReset | .hostQuietExpiry
  | .responseStart | .noticeStart | .controlFrameSent | .restartReset _ | .pinReset _ _
  | .slotCreditEarned _ | .releaseTimeReached _ | .transmissionStart _ | .dropFrameSent _
  | .dropHeaderTaken _ _ _ _ | .ackTimeout _ | .backoffExpiry _ | .dropResetBreakEnd _
  | .dropResetEnd _ | .dropStartByte _ | .controlStartByte => true

end Sys2Proof
end

