-- ==== Sys2Proof/Laws/PerInstr.lean ====
section
/-! SUPPORT. The family `CharsBounded`: a well-formed command brings at most the 562 characters that can follow the
length of the longest frame (R161, R162: 560 counted characters and two check characters). -/

namespace Sys2Proof.Laws.CharsBounded

/-- The bound of the family. -/
def Statement (i : Instr) : Prop := i.wellFormed = true → i.chars.length ≤ 562

/-- A checked upper bound within 562. -/
theorem of_le {n top : Nat} (h : decide (n ≤ top) = true) (ht : top ≤ 562) : n ≤ 562 :=
  (of_decide_eq_true h).trans ht

/-- A checked range within 562. -/
theorem of_between {n low top : Nat} (h : (decide (low ≤ n) && decide (n ≤ top)) = true) (ht : top ≤ 562) : n ≤ 562 :=
  of_le (Bool.and_eq_true_iff.1 h).2 ht

theorem identify : Statement (.identify) :=
  fun _ => Nat.zero_le _
theorem partStatus : Statement (.partStatus) :=
  fun _ => Nat.zero_le _
theorem partConfig : Statement (.partConfig) :=
  fun _ => Nat.zero_le _
theorem restart : Statement (.restart) :=
  fun _ => Nat.zero_le _
theorem laneConfig : Statement (.laneConfig) :=
  fun _ => Nat.zero_le _
theorem laneModeHold : Statement (.laneModeHold) :=
  fun _ => Nat.zero_le _
theorem laneModePass : Statement (.laneModePass) :=
  fun _ => Nat.zero_le _
theorem laneModeHalt : Statement (.laneModeHalt) :=
  fun _ => Nat.zero_le _
theorem laneStatus : Statement (.laneStatus) :=
  fun _ => Nat.zero_le _
theorem laneFlush : Statement (.laneFlush) :=
  fun _ => Nat.zero_le _
theorem laneReseqForce : Statement (.laneReseqForce) :=
  fun _ => Nat.zero_le _
theorem laneReseqMark : Statement (.laneReseqMark) :=
  fun _ => Nat.zero_le _
theorem dropReset : Statement (.dropReset) :=
  fun _ => Nat.zero_le _
theorem submit : Statement (.submit) :=
  fun _ => Nat.zero_le _
theorem cancel : Statement (.cancel) :=
  fun _ => Nat.zero_le _
theorem query : Statement (.query) :=
  fun _ => Nat.zero_le _
theorem replyRead : Statement (.replyRead) :=
  fun _ => Nat.zero_le _
theorem collect : Statement (.collect) :=
  fun _ => Nat.zero_le _
theorem retire : Statement (.retire) :=
  fun _ => Nat.zero_le _
theorem reportTake : Statement (.reportTake) :=
  fun _ => Nat.zero_le _
theorem unknownRequest : Statement (.unknownRequest) :=
  fun _ => Nat.zero_le _
theorem controlHeaderTaken (lenHi lenLo : Byte) : Statement (.controlHeaderTaken lenHi lenLo) :=
  fun _ => Nat.zero_le _
theorem controlFrameEnd (chars : List Byte) : Statement (.controlFrameEnd chars) :=
  fun h => of_between h (by decide)
theorem controlFrameGap : Statement (.controlFrameGap) :=
  fun _ => Nat.zero_le _
theorem linkBreak : Statement .linkBreak :=
  fun _ => Nat.zero_le _
theorem linkReset : Statement (.linkReset) :=
  fun _ => Nat.zero_le _
theorem hostQuietExpiry : Statement (.hostQuietExpiry) :=
  fun _ => Nat.zero_le _
theorem responseStart : Statement (.responseStart) :=
  fun _ => Nat.zero_le _
theorem noticeStart : Statement (.noticeStart) :=
  fun _ => Nat.zero_le _
theorem controlFrameSent : Statement .controlFrameSent :=
  fun _ => Nat.zero_le _
theorem restartReset (pins : PinLevels) : Statement (.restartReset pins) :=
  fun _ => Nat.zero_le _
theorem pinReset (low : Bool) (pins : PinLevels) : Statement (.pinReset low pins) :=
  fun _ => Nat.zero_le _
theorem tick (pins : TickSample) : Statement (.tick pins) :=
  fun _ => Nat.zero_le _
theorem slotCreditEarned (lane : LaneId) : Statement (.slotCreditEarned lane) :=
  fun _ => Nat.zero_le _
theorem releaseTimeReached (lane : LaneId) : Statement (.releaseTimeReached lane) :=
  fun _ => Nat.zero_le _
theorem transmissionStart (lane : LaneId) : Statement (.transmissionStart lane) :=
  fun _ => Nat.zero_le _
theorem dropFrameSent (lane : LaneId) : Statement (.dropFrameSent lane) :=
  fun _ => Nat.zero_le _
theorem dropHeaderTaken (lane : LaneId) (control lenHi lenLo : Byte) : Statement (.dropHeaderTaken lane control lenHi lenLo) :=
  fun _ => Nat.zero_le _
theorem dropGapCut (lane : LaneId) (cut : GapCut) : Statement (.dropGapCut lane cut) :=
  fun h => of_le (Bool.and_eq_true_iff.1 h).1 (by decide)
theorem dropFrameEnd (lane : LaneId) (chars : List Byte) : Statement (.dropFrameEnd lane chars) :=
  fun h => of_between h (by decide)
theorem ackTimeout (lane : LaneId) : Statement (.ackTimeout lane) :=
  fun _ => Nat.zero_le _
theorem backoffExpiry (lane : LaneId) : Statement (.backoffExpiry lane) :=
  fun _ => Nat.zero_le _
theorem dropResetBreakEnd (lane : LaneId) : Statement (.dropResetBreakEnd lane) :=
  fun _ => Nat.zero_le _
theorem dropResetEnd (lane : LaneId) : Statement (.dropResetEnd lane) :=
  fun _ => Nat.zero_le _
theorem dropStartByte (lane : LaneId) : Statement (.dropStartByte lane) :=
  fun _ => Nat.zero_le _
theorem controlStartByte : Statement (.controlStartByte) :=
  fun _ => Nat.zero_le _
theorem dropFramingFault (lane : LaneId) (taken : List Byte) : Statement (.dropFramingFault lane taken) :=
  fun h => of_le h (by decide)

end Sys2Proof.Laws.CharsBounded
end

