-- ==== Sys2Proof/Tests/Slice0.lean ====
section
/-! SUPPORT. Named tests. Expected values come from the spec's own examples and tables, named in each docstring. First the
check of well-formedness, then single operations, then one step of each command on a small state, last a witness for the
premises of each statement that has some. -/

namespace Sys2Proof.Tests

-- One theorem at a time: each waits for the kernel, and a hundred waiting threads would exceed the memory limit.
set_option Elab.async false

open Sys2Proof Sys2Proof.Machine

/-! ### Well-formedness: every check refuses an ill-formed command -/

theorem test_wf_control_frame_too_short : (Instr.controlFrameEnd [0, 0, 0, 0]).wellFormed = false := by decide

theorem test_wf_control_frame_too_long : (Instr.controlFrameEnd (List.replicate 563 0)).wellFormed = false := by decide +kernel

theorem test_wf_control_frame : (Instr.controlFrameEnd [0x51, 0, 1, 0, 0]).wellFormed = true := by decide

theorem test_wf_drop_frame_too_short : (Instr.dropFrameEnd 0 [0]).wellFormed = false := by decide

theorem test_wf_drop_frame_too_long : (Instr.dropFrameEnd 0 (List.replicate 515 0)).wellFormed = false := by decide +kernel

theorem test_wf_drop_frame : (Instr.dropFrameEnd 7 [0, 0]).wellFormed = true := by decide

theorem test_wf_gap_cut_too_long : (Instr.dropGapCut 0 ⟨List.replicate 514 0, 0⟩).wellFormed = false := by decide +kernel

theorem test_wf_framing_fault_too_long : (Instr.dropFramingFault 0 (List.replicate 514 0)).wellFormed = false := by decide +kernel

theorem test_wf_gap_cut_after_the_tick : (Instr.dropGapCut 0 ⟨[], 241⟩).wellFormed = false := by decide

theorem test_wf_gap_cut : (Instr.dropGapCut 7 ⟨[], 240⟩).wellFormed = true := by decide

theorem test_wf_tick_high_and_never_high : (Instr.tick { TickSample.idle with hrx := ⟨false, false, false, false⟩ }).wellFormed = false := by
  decide +kernel

theorem test_wf_tick_character_unseen : (Instr.tick { TickSample.idle with hrx := ⟨false, true, false, true⟩ }).wellFormed = false := by
  decide +kernel

theorem test_wf_tick_pauses_longer_than_a_tick :
    (Instr.tick { TickSample.idle with drx := Vector.replicate 8 ⟨200, some 41⟩ }).wellFormed = false ∧
    (Instr.tick { TickSample.idle with drx := Vector.replicate 8 ⟨239, none⟩ }).wellFormed = false := by decide +kernel

theorem test_wf_tick :
    (Instr.tick TickSample.idle).wellFormed = true ∧
    (Instr.tick { TickSample.idle with drx := Vector.replicate 8 ⟨200, some 40⟩ }).wellFormed = true := by decide +kernel

/-! ### Single operations -/

/-- R185: the check of the nine characters 123456789. -/
theorem test_crc_of_nine_digits : crc16 [0x31, 0x32, 0x33, 0x34, 0x35, 0x36, 0x37, 0x38, 0x39] = 0x29B1#16 := by decide +kernel

/-- Section 10.8: the DATA frame's control byte, kind 1, seq 1, reply-wanted. -/
theorem test_control_byte_of_data : dropControl .data true false true = 0x29#8 := by decide

/-- Section 11.9: DATA with seq 0 and the sync mark. -/
theorem test_control_byte_with_sync : dropControl .data false true false = 0x11#8 := by decide

/-- R115, R196: NREQ carries no sync mark. -/
theorem test_control_byte_of_nreq : dropControl .nreq true true true = 0x2A#8 := by decide

/-- Section 2.12: the three issues across the wrap. -/
theorem test_tickets_across_the_wrap :
    let live (ts : List Ticket) : List Record := ts.map fun t => newRecord ⟨0, false, false, false, none, none, []⟩ t 64 []
    MessageTable.issue ⟨live [65535, 1, 3], 65534, []⟩ = some 65534 ∧
    MessageTable.issue ⟨live [65535, 1, 3, 65534], 65535, []⟩ = some 2 ∧
    MessageTable.issue ⟨live [65535, 1, 3, 65534, 2], 3, []⟩ = some 4 := by decide

/-- Section 3.9: the judgements of a release time across the wrap, and one beyond half the range. -/
theorem test_release_time_across_the_wrap :
    released 0xFFFFFF00#32 (some 0x00000100#32) = false ∧ released 0x000000FF#32 (some 0x00000100#32) = false ∧
    released 0x00000100#32 (some 0x00000100#32) = true ∧ released 0xFFFFFF00#32 (some 0x90000100#32) = true ∧
    released 0 none = true := by decide

/-- Section 5.6: the accumulator through eight advances with N = 3 and D = 8; a credit falls at 3, 6 and 8. -/
theorem test_generator_three_in_eight :
    (List.range 8).map (fun a => (SlotGenerator.step 3 8 ⟨(3 * a) % 8, 0, false⟩).accumulator) = [3, 6, 1, 4, 7, 2, 5, 0] ∧
    (List.range 8).map (fun a => (SlotGenerator.step 3 8 ⟨(3 * a) % 8, 0, false⟩).due) =
      [false, false, true, false, false, true, false, true] := by decide

/-- R2: block counts at the edges. -/
theorem test_block_counts : [0, 1, 32, 33, 512].map blockCount = [0, 1, 1, 2, 16] := by decide

/-- Section 10.8: the SUBMIT body, read at its offsets. -/
theorem test_submit_body_of_10_8 :
    submitArgs [0x20, 0x02, 0x15, 0x00, 0x28, 0x00, 0x0A, 1, 2, 3, 4, 5, 6, 7, 8, 9, 10] =
      .ok ⟨2, true, false, true, none, some 40, [1, 2, 3, 4, 5, 6, 7, 8, 9, 10]⟩ := by decide

/-- R189: release time before reply limit, both present. -/
theorem test_submit_body_with_both :
    submitArgs [0x20, 0x07, 0x1C, 0x01, 0x02, 0x03, 0x04, 0x02, 0x00, 0x00, 0x00] =
      .ok ⟨7, false, false, true, some 0x01020304#32, some 512, []⟩ := by decide

/-- Section 10.8: the outline of its request frame, 24 characters. -/
theorem test_control_frame_outline :
    (controlFrame 0x51#8 0x21 (List.replicate 17 0)).take 5 = [0xB7, 0x00, 0x13, 0x51, 0x21] ∧
    (controlFrame 0x51#8 0x21 (List.replicate 17 0)).length = 24 := by decide

/-- R112: the character 69h on a line; its data bits go least significant bit first. -/
theorem test_character_levels :
    charLevels 0x69 = [false, true, false, false, true, false, true, true, false, true] := by decide

/-- The table of R112: the gap limits 4166.67 µs, 347.22 µs and 20 µs of codes 0, 3 and 7, in periods of the 24 MHz clock. -/
theorem test_gap_limits :
    let cut (code gap : Nat) : Bool :=
      ({ Lane.reset with config := { Lane.reset.config with lineRate := code }
                         port := ⟨.idle, .header false 0, none, none⟩ } : Lane).gapOver gap
    cut 0 100000 = false ∧ cut 0 100001 = true ∧ cut 3 8333 = false ∧ cut 3 8334 = true ∧ cut 7 480 = false ∧
    cut 7 481 = true := by decide +kernel

/-! ### Small states -/

/-- The state after reset with 9 free blocks and an empty notice list. -/
def small : State :=
  { State.reset with pool := ⟨[0, 1, 2, 3, 4, 5, 6, 7, 8], []⟩, notices := ⟨[], 0x0FFF#16, 7⟩ }

/-- The state after a command. -/
def ran (c : Instr) (s : State) : State :=
  match exec c s with
  | .next t => t
  | .fault _ | .refused _ => s

/-- `s` with one request in the intake queue, tag 21h. -/
def asked (body : List Byte) (s : State) : State := { s with link := { s.link with intake := [⟨0x21, body⟩] } }

/-- The bodies of the responses that the request commands leave for this request body. -/
def answers (body : List Byte) (s : State) : List (List Byte) :=
  (ran (requestCommand body) (asked body s)).link.responses.map Response.body

/-- A plain record: no payload, NORMAL, no reply wanted. -/
def plain (t : Ticket) (l : LaneId) : Record := newRecord ⟨l, false, false, false, none, none, []⟩ t 64 []

/-- An ACTIVE record that wants a reply of at most 40 bytes. -/
def wanting (t : Ticket) : Record :=
  { plain t 0 with state := .active, replyWanted := true, replyLimit := some 40, replyChain := [20, 21], reply := [] }

/-- `s` with the records `rs`, lane 0 and the free blocks as given. -/
def setup (rs : List Record) (f : Lane → Lane) : State :=
  { small with table := ⟨rs, 100, []⟩, lanes := small.lanes.set 0 (f Lane.reset) }

/-- Lane 0 in PASS with active ticket 7 in the given phase. -/
def running (p : Phase) (x : Lane) : Lane := { x with mode := .pass, phase := p, active := some 7, resync := false }

/-- Lane 0 in AWAIT_ANSWER with the ack timer running. -/
def awaiting : State := setup [{ plain 7 0 with state := .active }] fun x => { running .awaitAnswer x with ackTimer := some 5 }

/-- Lane 0 with an expected frame in reception: `control`, `length`, seq 0, the check at 0. -/
def receiving (r : Record) (control : Byte) (length : Nat) (a : AnswerClass) (f : Lane → Lane) : State :=
  setup [r] fun x => f { running .awaitAnswer x with
    port := ⟨.idle, .frame ⟨control, length, 4, 0#16, a, false, 0⟩, none, none⟩ }

/-- Lane 0's frame in reception with a pause of `gap` periods of CLKIN as of the last advance. -/
def paused (gap : Nat) (s : State) : State :=
  s.onPort 0 fun p => { p with rx := match p.rx with | .frame f => .frame { f with gap := gap } | x => x }

/-- The characters of the payload and its good check, in a frame whose check stands at 0. -/
def good (payload : List Byte) : List Byte := payload ++ bytesOf 2 (crcMore 0#16 payload).toNat

/-- Kinds, tickets and counts of the notice list. -/
def listed (s : State) : List (NoticeKind × Ticket × Nat) := s.notices.entries.map fun n => (n.kind, n.ticket, n.count)

/-! ### One step of each command -/

/-- R182: the fixed figures of IDENTIFY. -/
theorem test_identify :
    answers [0x01] small = [[0x01, 0x00, 0x57, 0xD8, 0x01, 0x08, 0x02, 0x00, 0x20, 0x80, 0x02, 0x00, 0x02, 0x00, 0x40, 0x02,
      0x04, 0x04, 0x44, 0x01, 0x00, 0x40]] := by decide +kernel

/-- R183, R193: PART_STATUS reports the counts before it clears them. -/
theorem test_part_status :
    let s : State := { small with link := { small.link with damageCount := 3 } }
    ((answers [0x02, 0x01] s).map fun b => (b.take 4, (b.drop 12).take 2)) = [([0x02, 0x00, 0x00, 0x09], [0x00, 0x03])] ∧
    (ran .partStatus (asked [0x02, 0x01] s)).link.damageCount = 0 := by decide +kernel

/-- R184, R152: PART_CONFIG masks IDLE and removes the pending IDLE entry. -/
theorem test_part_config :
    let s : State := { small with notices := ⟨[⟨.idle, some 1, 1, 7, .none, none, 160⟩, ⟨.done, some 1, 2, 7, .none, none, 160⟩], 0x0FFF#16, 7⟩ }
    let t := ran .partConfig (asked [0x03, 0x0F, 0xEF, 0x00, 0x0A] s)
    listed t = [(.done, 7, 2)] ∧ t.link.quietLimit = 10 ∧ t.link.quietTimer = .stopped := by decide +kernel

/-- R178: RESTART sets its flag. -/
theorem test_restart : (ran .restart (asked [0x04] small)).restartPending = true := by decide +kernel

/-- R66 step 2: pacing_num above pacing_den is refused. -/
theorem test_lane_config_pacing_above_one :
    answers [0x10, 0, 7, 0, 9, 0, 8, 2, 0, 20, 0, 5, 3, 50, 0, 0, 64, 0, 64, 0, 0] small = [[0x10, 0x03]] := by decide +kernel

/-- R67: LANE_CONFIG writes the record and loads quota_left. -/
theorem test_lane_config :
    let t := ran .laneConfig (asked [0x10, 3, 7, 0, 3, 0, 8, 2, 0, 20, 0, 5, 3, 50, 1, 0, 64, 0, 64, 0, 3] small)
    (t.lane 3).config.pacingNum = 3 ∧ (t.lane 3).config.failurePolicy = .skip ∧ (t.lane 3).quotaLeft = 3 := by decide +kernel

/-- R71: LANE_MODE from PASS to HOLD leaves WAIT_TIME. -/
theorem test_lane_mode_hold :
    let s := setup [plain 7 0] fun x => { x with mode := .pass, phase := .waitTime, queue := [7] }
    let x := (ran .laneModeHold (asked [0x11, 0, 0] s)).lane 0
    x.mode = .hold ∧ x.phase = .idle ∧ x.queue = [7] := by decide +kernel

/-- R70: LANE_MODE from HOLD to PASS reloads quota_left and selects the head. -/
theorem test_lane_mode_pass :
    let s := setup [plain 7 0] fun x => { x with queue := [7], config := { x.config with quota := 3 } }
    let x := (ran .laneModePass (asked [0x11, 0, 1] s)).lane 0
    x.mode = .pass ∧ x.phase = .waitSlot ∧ x.active = some 7 ∧ x.quotaLeft = 3 := by decide +kernel

/-- Section 3.8: the halt-abort puts NORMAL ticket 20 behind the URGENT run. -/
theorem test_lane_mode_halt :
    let s := setup [{ plain 20 0 with state := .active }, plain 21 0, plain 22 0, { plain 23 0 with urgent := true },
      { plain 24 0 with urgent := true }] fun x =>
        { running .awaitAnswer x with active := some 20, queue := [23, 24, 21, 22], ackTimer := some 5 }
    let t := ran .laneModeHalt (asked [0x11, 0, 2] s)
    (t.lane 0).queue = [23, 24, 20, 21, 22] ∧ (t.lane 0).mode = .halt ∧ (t.lane 0).ackTimer = none ∧
    (t.record? 20).map Record.uncertain = some true ∧ listed t = [(.idle, 20, 1)] := by decide +kernel

/-- R96: LANE_STATUS is 53 bytes, seq and resync mark in byte 7. -/
theorem test_lane_status :
    ((answers [0x12, 0, 0] small).map fun b => (b.length, b.getD 7 0)) = [(53, 0x02)] := by decide +kernel

/-- Section 2.13: a flush of lane 3 appends 10, 11, 12 behind 7. -/
theorem test_lane_flush :
    let s0 := setup [plain 7 1, plain 10 0, plain 11 0, plain 12 0] fun x => { x with queue := [10, 11, 12] }
    let t := ran .laneFlush (asked [0x13, 0] { s0 with table := { s0.table with completion := [7] } })
    t.table.completion = [7, 10, 11, 12] ∧ (t.lane 0).queue = [] := by decide +kernel

/-- R137: FORCE with bit 1 clears the mark and answers the sequence state. -/
theorem test_lane_reseq_force :
    let s := asked [0x14, 0, 1, 1] small
    let t := ran .laneReseqForce s
    (t.lane 0).seq = true ∧ (t.lane 0).resync = false ∧ t.link.responses = [⟨0x21, [0x14, 0x00, 0x01]⟩] := by decide +kernel

/-- R137: MARK sets the mark and keeps seq. -/
theorem test_lane_reseq_mark : answers [0x14, 0, 2, 0] small = [[0x14, 0x00, 0x02]] := by decide +kernel

/-- Section 6.13: DROP_RESET begins the break and answers OK. -/
theorem test_drop_reset :
    let t := ran .dropReset (asked [0x15, 4] small)
    (t.lane 4).phase = .resetting ∧ t.dtxBreak 4 = true ∧ (t.lane 4).port.breakTimer = some 200 := by decide +kernel

/-- Section 10.8: the SUBMIT with ticket counter 7 is answered with ticket 7. -/
theorem test_submit :
    answers [0x20, 0x02, 0x15, 0x00, 0x28, 0x00, 0x0A, 1, 2, 3, 4, 5, 6, 7, 8, 9, 10]
      { small with table := ⟨[], 7, []⟩ } = [[0x20, 0x00, 0x00, 0x07]] := by decide +kernel

/-- Section 1.8 step 2: free count 1, protected sum 2; a SUBMIT of 40 bytes, and one of 0 bytes, is refused with POOL_FULL. -/
theorem test_submit_pool_full :
    let s : State := { small with pool := ⟨[0], [⟨0, 2⟩]⟩ }
    answers ([0x20, 1, 0, 0, 40] ++ List.replicate 40 0) s = [[0x20, 0x07, 0, 0]] ∧
    answers [0x20, 1, 0, 0, 0] s = [[0x20, 0x07, 0, 0]] := by decide +kernel

/-- Section 3.8: CANCEL of queued ticket 24 answers CANCELLED and ends it. -/
theorem test_cancel_queued :
    let s := setup [plain 20 0, plain 24 0] fun x => { x with mode := .halt, queue := [20, 24] }
    let t := ran .cancel (asked [0x21, 0, 24] s)
    t.link.responses = [⟨0x21, [0x21, 0x00, 0x01]⟩] ∧ (t.lane 0).queue = [20] ∧ t.table.completion = [24] := by decide +kernel

/-- Section 4.11: CANCEL of an ACTIVE record in AWAIT_ANSWER answers MARKED. -/
theorem test_cancel_active : answers [0x21, 0, 7] awaiting = [[0x21, 0x00, 0x02]] := by decide +kernel

/-- Section 10.8: attributes 05h, presence 11h and the lengths of ticket 7 DONE. -/
theorem test_query :
    let r := { newRecord ⟨0, true, false, true, none, some 40, List.replicate 10 0⟩ 7 64 [] with
      state := .done, replyLength := 30, sends := 1, completionTime := some 5 }
    ((answers [0x22, 0, 7] (setup [r] id)).map fun b => (b.length, b.take 10, (b.drop 14).take 5)) =
      [(28, [0x22, 0x00, 0x00, 0x07, 0x00, 0x03, 0x05, 0x11, 0x00, 0x28], [0x00, 0x0A, 0x00, 0x1E, 0x01])] := by decide +kernel

/-- Section 2.13: of a reply of 300 bytes, offset 256 gives 44 bytes, 300 none, and 301 gives RANGE. -/
theorem test_reply_read :
    let r := { plain 7 0 with state := .done, replyWanted := true, replyLength := 300, reply := List.replicate 300 1 }
    let s := setup [r] id
    answers [0x23, 0, 7, 1, 0, 1, 0] s = [[0x23, 0x00, 0x00, 0x2C] ++ List.replicate 44 1] ∧
    answers [0x23, 0, 7, 1, 0x2C, 1, 0] s = [[0x23, 0x00, 0x00, 0x00]] ∧
    answers [0x23, 0, 7, 1, 0x2D, 1, 0] s = [[0x23, 0x0C]] := by decide +kernel

/-- Section 2.13: COLLECT of lane 3 with maximum 2. -/
theorem test_collect :
    let ended (t : Ticket) (l : LaneId) : Record := { plain t l with state := .cancelled, cause := some .flushed }
    let s0 := setup [ended 7 1, ended 10 3, ended 11 3, ended 12 3] id
    answers [0x24, 3, 2] { s0 with table := { s0.table with completion := [7, 10, 11, 12] } } =
      [[0x24, 0x00, 0x03, 0x02, 0x00, 0x0A, 0x05, 0x00, 0x0B, 0x05]] := by decide +kernel

/-- R43: RETIRE of a terminal record returns its blocks; of a QUEUED one it is refused. -/
theorem test_retire :
    let r := { plain 7 0 with state := .done, replyChain := [20, 21, 22] }
    let t := ran .retire (asked [0x25, 0, 7] (setup [r] id))
    t.table.records = [] ∧ t.freeCount = 12 ∧ answers [0x25, 0, 8] (setup [plain 8 0] id) = [[0x25, 0x0A]] := by decide +kernel

/-- Section 7.5: REPORT_TAKE of P (12 bytes at 7000) with Q still held, then EMPTY on an empty holding. -/
theorem test_report_take :
    let s := setup [] fun x => { x with holding := [⟨List.replicate 12 9, 7000⟩, ⟨[], 7210⟩] }
    answers [0x30, 0] s = [[0x30, 0x00, 0x0C, 0x00, 0x00, 0x1B, 0x58, 0x01] ++ List.replicate 12 9] ∧
    answers [0x30, 1] s = [[0x30, 0x0D]] := by decide +kernel

/-- R168 step 2: a first byte that is no code. -/
theorem test_unknown_request : answers [0x05, 1, 2] small = [[0x05, 0x01]] := by decide +kernel

/-- R162: L of 2 and of 561 is damaged with BAD_LENGTH; 560 is taken. -/
theorem test_control_header :
    let s : State := { small with link := { small.link with framer := .header } }
    (ran (.controlHeaderTaken 0 2) s).link.damageCount = 1 ∧ (ran (.controlHeaderTaken 0x02 0x31) s).link.damageCount = 1 ∧
    (ran (.controlHeaderTaken 0x02 0x30) s).link.damageCount = 0 := by decide +kernel

/-- R165: a request frame is taken whole, after its start byte and length. -/
theorem test_control_frame_end :
    let s := ran (.controlHeaderTaken 0 3) (ran .controlStartByte small)
    (ran (.controlFrameEnd ([0x51, 0x21, 0x01] ++ checkBytes (crc16 [0, 3, 0x51, 0x21, 0x01]))) s).link.intake =
      [⟨0x21, [0x01]⟩] := by decide +kernel

/-- Section 9.11: the fifth request of a full intake queue is dropped with INTAKE_DROP, detail its tag. -/
theorem test_control_frame_end_full :
    let q : Request := ⟨6, [1]⟩
    let s : State := { small with link := { small.link with intake := [q, q, q, q], framer := .frame 0 3 3 (crc16 [0, 3]) } }
    let t := ran (.controlFrameEnd ([0x51, 10, 0x01] ++ checkBytes (crc16 [0, 3, 0x51, 10, 0x01]))) s
    t.link.intake = [q, q, q, q] ∧ t.link.dropCount = 1 ∧ t.notices.entries.map NoticeEntry.detail = [.tag 10] := by
  decide +kernel

/-- R163: 500 ticks within a frame. -/
theorem test_control_frame_gap :
    let s : State := { small with link := { small.link with framer := .header, gapWatch := 500 } }
    (ran .controlFrameGap s).notices.entries.map NoticeEntry.detail = [.damage .gap] := by decide +kernel

/-- Section 9.11: a break empties both queues and holds the transmitter. -/
theorem test_link_break :
    let s : State := { small with link := { small.link with intake := [⟨8, [1]⟩], responses := [⟨4, [1, 0]⟩], breakWatch := 100 } }
    let t := ran .linkBreak s
    t.link.intake = [] ∧ t.link.responses = [] ∧ t.link.tx = .held := by decide +kernel

/-- R172: a break with the restart-pending flag set is the reset itself, and HRX is still low after it (R180). -/
theorem test_link_break_takes_the_pending_reset :
    let t := ran .linkBreak
      { small with restartPending := true, link := { small.link with responses := [⟨1, [4, 0]⟩], breakWatch := 100, straps := 1 } }
    t.notices.entries.map NoticeEntry.detail = [.reset .restart] ∧ t.link.lowSinceReset = true ∧ t.link.speed = 1 := by decide +kernel

/-- Section 9.11: HRX returns high, the transmitter is free and LINK_RESET is appended. -/
theorem test_link_reset :
    let t := ran .linkReset { small with link := { small.link with breakDetected := true, tx := .held, framer := .stopped } }
    t.link.tx = .free ∧ t.link.framer = .hunting ∧ listed t = [(.linkReset, 0, 1)] := by decide +kernel

/-- R176: the expiry holds the lane in PASS and no other. -/
theorem test_host_quiet_expiry :
    let s0 := setup [] fun x => { x with mode := .pass }
    let t := ran .hostQuietExpiry { s0 with link := { s0.link with quietTimer := .running 0 } }
    (t.lane 0).mode = .hold ∧ listed t = [(.held, 0, 1)] ∧ t.link.quietTimer = .stopped := by decide +kernel

/-- R169, R186: a response frame with the request's tag. -/
theorem test_response_start :
    let t := ran .responseStart { small with link := { small.link with responses := [⟨0x21, [0x20, 0, 0, 7]⟩] } }
    (match t.link.tx with | .sendingResponse f => f.take 9 | _ => []) = [0xB7, 0, 6, 0x52, 0x21, 0x20, 0, 0, 7] := by decide +kernel

/-- Section 10.8: the notice body of the DONE, under the notice number, 17 characters in front of the check. -/
theorem test_notice_start :
    let s : State := { small with notices := ⟨[⟨.done, some 2, 1, 7, .none, none, 0x00000102⟩], 0x0FFF#16, 8⟩ }
    let t := ran .noticeStart s
    (match t.link.tx with | .sendingNotice f => f.take 17 | _ => []) =
      [0xB7, 0, 14, 0x53, 8, 0x01, 0x02, 0x01, 0, 7, 0, 0, 0, 0, 0, 1, 2] ∧ t.notices.number = 9 ∧ t.attnLow = false := by
  decide +kernel

/-- R171: the transmitter is free after the last character. -/
theorem test_control_frame_sent :
    (ran .controlFrameSent { small with link := { small.link with tx := .sendingNotice [0xB7] } }).link.tx = .free := by
  decide +kernel

/-- R179: the last character of the RESTART response is the reset. -/
theorem test_control_frame_sent_takes_the_pending_reset :
    let t := ran .controlFrameSent
      { small with restartPending := true, link := { small.link with tx := .sendingResponse [0xB7], straps := 3 } }
    t.notices.entries.map NoticeEntry.detail = [.reset .restart] ∧ t.link.speed = 3 ∧ t.restartPending = false := by decide +kernel

/-- R180: RESTART_RESET gives STARTED with reset cause RESTART and samples the straps. -/
theorem test_restart_reset :
    let t := ran (.restartReset ⟨2, false⟩) { small with restartPending := true }
    t.link.speed = 2 ∧ t.notices.entries.map NoticeEntry.detail = [.reset .restart] ∧ t.restartPending = false := by
  decide +kernel

/-- R181, R158: PIN_RESET gives STARTED with reset cause RESET_PIN. -/
theorem test_pin_reset :
    (ran (.pinReset false ⟨1, false⟩) small).notices.entries.map NoticeEntry.detail = [.reset .resetPin] := by decide +kernel

/-- R157, R181: while RESET_N is low ATTN_N is high and part time stands at 0, and no frame is begun. -/
theorem test_pin_reset_low :
    let t := ran (.pinReset true ⟨0, false⟩) State.reset
    State.reset.attnLow = true ∧ t.attnLow = false ∧ (ran (.tick .idle) t).time = 0 ∧
    ((ran (.dropStartByte 0) t).lane 0).port.rx = .hunting := by decide +kernel

/-- R98: part time wraps. -/
theorem test_tick_wraps : (ran (.tick .idle) { small with time := 0xFFFFFFFF }).time = 0 := by decide +kernel

/-- R101: a timer counts the advance. -/
theorem test_tick_counts : ((ran (.tick .idle) awaiting).lane 0).ackTimer = some 4 := by decide +kernel

/-- Section 5.6, advance 8: a credit earned at burst is lost. -/
theorem test_slot_credit_earned :
    let s (c : Nat) := setup [] fun x => { x with config := { x.config with pacingNum := 3, pacingDen := 8, burst := 2 }, slots := ⟨0, c, true⟩ }
    ((ran (.slotCreditEarned 0) (s 2)).lane 0).slots = ⟨0, 2, false⟩ ∧
    ((ran (.slotCreditEarned 0) (s 1)).lane 0).slots = ⟨0, 2, false⟩ := by decide +kernel

/-- Section 3.9: at part time 100h the head of the waiting lane is selected. -/
theorem test_release_time_reached :
    let s := setup [{ plain 40 0 with releaseTime := some 0x100 }] fun x => { x with mode := .pass, phase := .waitTime, queue := [40] }
    ((ran (.releaseTimeReached 0) { s with time := 0x100 }).lane 0).active = some 40 ∧
    ((ran (.releaseTimeReached 0) { s with time := 0xFF }).lane 0).phase = .waitTime := by decide +kernel

/-- Section 10.8: the lane's DATA frame, and sends. -/
theorem test_transmission_start :
    let r := { plain 7 0 with state := .active, replyWanted := true, payload := [1, 2, 3, 4, 5, 6, 7, 8, 9, 10] }
    let t := ran (.transmissionStart 0) (setup [r] fun x => { running .waitSlot x with seq := true })
    (match (t.lane 0).port.tx with | .sending f => (f.take 4, f.length) | _ => ([], 0)) = ([0x6C, 0x29, 0x00, 0x0A], 16) ∧
    (t.record? 7).map Record.sends = some 1 := by decide +kernel

/-- R78: the ack timer starts with ack_timeout, 20 ms after reset. -/
theorem test_drop_frame_sent :
    let x := (ran (.dropFrameSent 0) (setup [] (running .sending))).lane 0
    x.phase = .awaitAnswer ∧ x.ackTimer = some 2000 := by decide +kernel

/-- Section 6.11: an ACK's header stops the ack timer and makes the frame expected. -/
theorem test_drop_header_taken :
    let s := awaiting.onPort 0 fun p => { p with rx := .header false 0 }
    ((ran (.dropHeaderTaken 0 0x04 0 0) s).lane 0).ackTimer = none ∧
    ((ran (.dropHeaderTaken 0 0x44 0 0) s).lane 0).phase = .waitSlot := by decide +kernel

/-- R124, R129: an expected REPLY cut by a gap is damaged, a miss, and makes an NREQ ready. -/
theorem test_drop_gap_cut :
    let x := (ran (.dropGapCut 0 ⟨[1, 2], 134⟩) (paused 8200 (receiving (wanting 7) 0x07 30 .expected id))).lane 0
    x.ready = .nreq ∧ x.counters.damagedFrames = 1 ∧ x.counters.missesTotal = 1 := by decide +kernel

/-- R116, R112: 347.22 µs at 115200 bit/s are 8333 periods of CLKIN; a pause within them cuts nothing. -/
theorem test_drop_gap_cut_within_the_limit :
    let s := paused 8200 (receiving (wanting 7) 0x07 30 .expected id)
    ran (.dropGapCut 0 ⟨[1, 2], 133⟩) s = s ∧ ((ran (.tick .idle) s).lane 0).counters.damagedFrames = 1 := by decide +kernel

/-- R116, R118: a framing fault in a report counts a damaged frame alone. -/
theorem test_drop_framing_fault :
    let x := (ran (.dropFramingFault 0 []) (receiving (wanting 7) 0x03 4 .report id)).lane 0
    x.counters.damagedFrames = 1 ∧ x.counters.missesTotal = 0 ∧ x.holding = [] := by decide +kernel

/-- Section 6.12: a REPLY of 30 bytes within reply_limit 40 makes the record DONE, trimmed to 1 block. -/
theorem test_drop_frame_end :
    let t := ran (.dropFrameEnd 0 (good (List.replicate 30 5))) (receiving (wanting 7) 0x07 30 .expected id)
    (t.record? 7).map (fun r => (r.state, r.replyLength, r.replyChain)) = some (.done, 30, [20]) ∧ t.freeCount = 10 ∧
    (t.lane 0).seq = true ∧ (t.lane 0).counters.delivered = 1 := by decide +kernel

/-- Section 7.5: R arrives while P and Q are held and is lost with OVERRUN. -/
theorem test_drop_frame_end_overrun :
    let t := ran (.dropFrameEnd 0 (good [9])) (receiving (wanting 7) 0x03 1 .report fun x => { x with holding := [⟨[1], 7000⟩, ⟨[], 7210⟩] })
    (t.lane 0).holding.length = 2 ∧ (t.lane 0).counters.reportOverruns = 1 ∧ listed t = [(.overrun, 0, 1)] := by decide +kernel

/-- Section 11.9: the second miss is above the retry limit of 1 under HALT: FAILED, HALTED and IDLE in that order. -/
theorem test_ack_timeout_fails :
    let s := setup [{ plain 7 0 with state := .active, misses := 1 }] fun x =>
      { running .awaitAnswer x with ackTimer := some 0, config := { x.config with retryLimit := 1 } }
    let t := ran (.ackTimeout 0) s
    listed t = [(.failed, 7, 1), (.halted, 7, 1), (.idle, 7, 1)] ∧ (t.lane 0).mode = .halt ∧ (t.lane 0).resync = true := by
  decide +kernel

/-- Section 4.11: the first miss is within it: a retransmission is ready. -/
theorem test_ack_timeout_retries :
    let s := setup [{ plain 7 0 with state := .active }] fun x =>
      { running .awaitAnswer x with ackTimer := some 0, config := { x.config with retryLimit := 1 } }
    ((ran (.ackTimeout 0) s).lane 0).phase = .waitSlot ∧
    ((ran (.ackTimeout 0) s).record? 7).map (fun r => (r.misses, r.uncertain)) = some (1, true) := by decide +kernel

/-- R82: the backoff ends. -/
theorem test_backoff_expiry :
    ((ran (.backoffExpiry 0) (setup [] fun x => { running .backoff x with backoffTimer := some 0 })).lane 0).phase = .waitSlot := by
  decide +kernel

/-- Section 6.13: DTX returns high and the recovery timer starts. -/
theorem test_drop_reset_break_end :
    let s := setup [] fun x => { x with phase := .resetting, port := ⟨.breaking, .discarding, some 0, none⟩ }
    ((ran (.dropResetBreakEnd 0) s).lane 0).port = ⟨.idle, .discarding, none, some 2000⟩ := by decide +kernel

/-- Section 6.13: in HOLD the reset ends in IDLE with latest ticket 0; seq 0, mark set. -/
theorem test_drop_reset_end :
    let s := setup [] fun x => { x with phase := .resetting, seq := true, resync := false, port := ⟨.idle, .discarding, none, some 0⟩ }
    let t := ran (.dropResetEnd 0) s
    (t.lane 0).phase = .idle ∧ (t.lane 0).seq = false ∧ (t.lane 0).resync = true ∧ listed t = [(.idle, 0, 1)] := by decide +kernel

/-- R116: a start byte is taken in hunting alone. -/
theorem test_drop_start_byte :
    ((ran (.dropStartByte 0) small).lane 0).port.rx = .header false 0 ∧
    ((ran (.dropStartByte 0) (receiving (wanting 7) 0x07 30 .expected id)).lane 0).port.rx ≠ .header false 0 := by decide +kernel

/-- R162: a start byte is taken in hunting alone. -/
theorem test_control_start_byte : (ran .controlStartByte small).link.framer = .header := by decide +kernel

/-- Section 1.8 step 1: the scan passes over capped lane 2, grants lane 5 and stops at lane 0 (here scaled: free 9, needs 4, 8, 2). -/
theorem test_scan_skips_a_capped_lane :
    let w (t : Ticket) (l : LaneId) (n : Nat) : Record := { plain t l with replyWanted := true, replyLimit := some (32 * n) }
    let q (t cap : Nat) : Lane :=
      { Lane.reset with mode := .pass, phase := .waitSpace, queue := [t], config := { Lane.reset.config with cap := cap } }
    let s : State := { small with
      pool := { small.pool with waiting := [⟨2, 4⟩, ⟨5, 8⟩, ⟨0, 2⟩] }
      table := ⟨[w 1 2 4, w 2 5 8, w 3 0 2], 9, []⟩
      lanes := ((small.lanes.set 2 (q 1 3)).set 5 (q 2 64)).set 0 (q 3 64) }
    s.grantScan.pool.waiting = [⟨2, 4⟩, ⟨0, 2⟩] ∧ s.grantScan.freeCount = 1 ∧ (s.grantScan.lane 5).active = some 2 := by
  decide +kernel

/-! ### Witnesses: states and operands that meet the premises of the statements, clause by clause -/

/-- A state whose oldest request has this body, as `Taken` reads it. -/
abbrev Asks (s : State) (body : List Byte) : Prop := Taken (asked body s) ⟨0x21, body⟩ []

/-- Lane 0 with one queued record, in PASS and the given phase. -/
def queuing (p : Phase) : State := setup [plain 7 0] fun x => { x with mode := .pass, phase := p, queue := [7] }

/-- Lane 0 in the given mode, without queue or active message. -/
def moded (m : Mode) : State := setup [] fun x => { x with mode := m }

/-- Lane 0 busy with ticket 7 in the given phase, the record as given. -/
def busyWith (r : Record) (p : Phase) : State := setup [r] (running p)

theorem witness_StepTakesTheFrontCommand :
    State.reset.pending = [] ∧ { small with pending := [.restart, .identify] }.pending = .restart :: [.identify] := by
  decide +kernel

theorem witness_RequestsWaitForTheProcessor :
    Instr.identify ∈ requestCommands ∧
    ∀ q rest, Taken { asked [0x01] small with restartPending := true } q rest → requestCommand q.body ≠ .identify :=
  ⟨by decide, fun _ _ h => absurd h.2.2 (by decide)⟩

theorem witness_RestartResetWaitsForItsResponse :
    let s : State := { small with restartPending := true }
    s.restartPending = true ∧ s.link.responses = [] ∧ small.restartPending = false ∧
    { s.link with responses := [⟨1, [4, 0]⟩] }.responses ≠ [] :=
  ⟨rfl, rfl, rfl, nofun⟩

theorem witness_EveryRequestFrameIsReadBack :
    small.link.framer = .hunting ∧ small.resetLow = false ∧ 1 ≤ [(1 : Byte)].length ∧
    (List.replicate 558 (0 : Byte)).length ≤ 558 :=
  ⟨rfl, rfl, le_refl 1, le_of_eq List.length_replicate⟩

theorem witness_FramerTakesStartByteAndLength :
    small.link.framer = .hunting ∧ small.resetLow = false ∧ (State.whileReset 0 []).resetLow = true ∧
    { small.link with framer := .header }.framer = .header ∧
    ((0 : Byte).toNat * 256 + (3 : Byte).toNat = 3) ∧ (2 : Byte).toNat * 256 + (0x30 : Byte).toNat = 560 := by decide +kernel

theorem witness_GoodFrameEndHandsOnTheRequest :
    let k := { small.link with framer := .frame 0x02 0x30 3 (crc16 [0x02, 0x30]) }
    k.framer = .frame 0x02 0x30 3 (crc16 [0x02, 0x30]) ∧
    (0x02 : Byte).toNat * 256 + (0x30 : Byte).toNat = (List.replicate 558 (0 : Byte)).length + 2 := by decide +kernel

theorem witness_DamagedControlFramesAreCounted :
    let k (f : Framer) (n : Nat) := { small.link with framer := f, gapWatch := n }
    (k .header 0).framer = .header ∧ (0 : Byte).toNat * 256 + (2 : Byte).toNat < 3 ∧
    560 < (2 : Byte).toNat * 256 + (0x31 : Byte).toNat ∧ (k (.frame 0 3 3 7) 0).framer = .frame 0 3 3 7 ∧
    [0x51#8, 1, 1].length = (0 : Byte).toNat * 256 + (3 : Byte).toNat ∧ [0#8, 0#8] ≠ checkBytes (crcMore 7 [0x51#8, 1, 1]) ∧
    0x52#8 ≠ 0x51#8 ∧ (k .header 500).framer.midFrame = true ∧ 500 ≤ (k .header 500).gapWatch ∧
    (k .hunting 0).framer.midFrame = false ∧ (k .header 499).gapWatch < 500 := by decide +kernel

theorem witness_LinkBreakEmptiesAndItsEndFreesTheLink :
    let k (n : Nat) (b : Bool) := { small.link with breakWatch := n, breakDetected := b }
    100 ≤ (k 100 false).breakWatch ∧ (k 100 false).breakDetected = false ∧ (k 99 false).breakWatch < 100 ∧
    (k 100 true).breakDetected = true ∧ small.restartPending = false ∧ { small with restartPending := true }.restartPending = true := by
  decide +kernel

theorem witness_HostQuietExpiryHoldsPassingLanes :
    let s : State := { queuing .waitSpace with pool := ⟨[], [⟨0, 2⟩]⟩, link := { small.link with quietTimer := .running 0 } }
    s.link.quietTimer = .running 0 ∧
    (∀ e ∈ s.pool.waiting, (s.lane e.lane).mode = .pass ∧ (s.lane e.lane).phase = .waitSpace) ∧
    small.link.quietTimer ≠ .running 0 := by decide +kernel

/-- The last clauses at the first and the last period of the first bit time at 115200 bit/s, 208.33 periods, and after the frame. -/
theorem witness_ResponseStartSendsTheOldest :
    let k := { small.link with responses := [⟨1, [4, 0]⟩] }
    k.responses = ⟨1, [4, 0]⟩ :: [] ∧ k.tx = .free ∧ k.lowSinceReset = false ∧ small.link.responses = [] ∧
    { k with tx := .sendingNotice [0xB7] }.tx = .sendingNotice [0xB7] ∧
    { k with tx := .sendingResponse [0xB7] }.tx = .sendingResponse [0xB7] ∧ small.restartPending = false ∧
    { small with restartPending := true }.restartPending = true ∧ [0xB7#8][0]? = some 0xB7#8 ∧
    (10 * 0 + 0) * 24000000 ≤ 0 * hostRate small.link.speed.toNat ∧
    208 * hostRate small.link.speed.toNat < (10 * 0 + 0 + 1) * 24000000 ∧
    10 * [0xB7#8].length * 24000000 ≤ 2084 * hostRate small.link.speed.toNat := by decide +kernel

theorem witness_NoticeStartSendsTheOldestEntry :
    State.reset.notices.entries = NoticeEntry.started .resetPin :: [] ∧ State.reset.link.responses = [] ∧
    State.reset.link.tx = .free ∧ State.reset.link.lowSinceReset = false ∧ State.reset.restartPending = false ∧
    small.notices.entries = [] := by decide +kernel

theorem witness_EventIsDiscardedMergedOrAppended :
    let e : Event := ⟨.done, some 1, 7, .none, none⟩
    let n : NoticeEntry := ⟨.done, some 1, 255, 6, .none, none, 150⟩
    let u : NoticeUnit := ⟨[⟨.done, some 2, 1, 9, .none, none, 100⟩, n], 0x0FFF, 7⟩
    { u with mask := 0x0FFE }.mask.getLsbD e.kind.maskBit = false ∧ u.mask.getLsbD e.kind.maskBit = true ∧
    u.entries = [⟨.done, some 2, 1, 9, .none, none, 100⟩] ++ n :: [] ∧ n.kind = e.kind ∧ n.lane = e.lane ∧
    (∀ m ∈ [NoticeEntry.mk .done (some 2) 1 9 .none none 100] ++ [], ¬(m.kind = e.kind ∧ m.lane = e.lane)) ∧ n.count ≤ 255 ∧
    ∀ m ∈ small.notices.entries, ¬(m.kind = e.kind ∧ m.lane = e.lane) := by decide +kernel

theorem witness_EveryStepKeepsTheNoticeLaws :
    let s : State := { State.reset with pending := [.pinReset false ⟨0, false⟩] }
    NoticesLawful s ∧ step s = .next (State.afterReset .resetPin 0 false []) := ⟨by decide +kernel, rfl⟩

theorem witness_NoticeListNeverExceeds68Entries : NoticesLawful State.reset := by decide +kernel

theorem witness_IdentifyAnswersTheFixedFigures : Asks small [0x01] ∧ Asks small [0x01, 9] := by decide +kernel

theorem witness_PartStatusReportsThenClears :
    Asks small [0x02, 0] ∧ Asks small [0x02, 1] ∧ (0 : Byte).toNat ≤ 1 ∧ (1 : Byte).toNat ≤ 1 := by decide +kernel

theorem witness_PartConfigWritesMaskAndLimit :
    Asks small (0x03 :: bytesOf 2 (0x0FFF#16).toNat ++ bytesOf 2 60000) ∧ Asks small (0x03 :: bytesOf 2 (0x0100#16).toNat ++ bytesOf 2 10) ∧
    Asks small [0x03, 1, 0, 0] ∧ [1#8, 0, 0].length ≠ 4 ∧ Asks small (0x03 :: bytesOf 2 (0x1100#16).toNat ++ bytesOf 2 60001) ∧
    60001 < 65536 ∧ 0x1000 ≤ (0x1100#16).toNat ∧ 60000 < 60001 ∧ (0x0EFF#16).getLsbD 8 = false ∧
    (0x0100#16).getLsbD 8 = true ∧ (0x0FFF#16).getLsbD 8 = true ∧ (0x0FFF#16).toNat < 0x1000 ∧
    ∀ n ∈ small.notices.entries, small.notices.mask.getLsbD n.kind.maskBit = true := by decide +kernel

theorem witness_RestartSetsTheFlagAlone : Asks small [0x04] ∧ Asks small [0x04, 0] := by decide +kernel

theorem witness_WrongLengthAndUnknownCodeAreRefused :
    Asks small [0x20, 0, 0] ∧ 0x20#8 ∈ requestCodes ∧ lengthOk [0x20, 0, 0] = false ∧ Asks small [0x31] ∧ 0x31#8 ∉ requestCodes := by
  decide +kernel

/-- A body for each code that has a bad argument, at the edge of its range. -/
theorem witness_EveryBadArgumentIsRefused :
    ∀ body ∈ [[0x02#8, 2], [0x03, 0x10, 0, 0, 0], [0x03, 0x01, 0, 0, 9], [0x03, 0x01, 0, 0xEA, 0x61],
        [0x10, 8, 7, 0, 0, 0, 1, 1, 0, 1, 0, 1, 0, 0, 0, 0, 0, 0, 0, 0, 0],
        [0x10, 0, 7, 0, 2, 0, 1, 1, 0, 1, 0, 1, 0, 0, 0, 0, 0, 0, 0, 0, 0], [0x11, 0, 3], [0x12, 0, 2], [0x13, 8], [0x14, 0, 1, 2],
        [0x14, 0, 2, 1], [0x15, 8], [0x20, 8, 0, 0, 0], [0x20, 0, 0x14, 2, 1, 0, 0], [0x20, 0, 0x10, 0, 0, 0, 0], [0x21, 0, 0],
        [0x22, 0, 0], [0x23, 0, 1, 0, 0, 1, 1], [0x24, 8, 1], [0x24, 0, 65], [0x25, 0, 0], [0x30, 8]],
      Asks small body ∧ body.headD 0 ∈ requestCodes ∧ lengthOk body = true ∧ badArgument body = true := by decide +kernel

theorem witness_LaneConfigBodyIsReadBack : Lane.reset.config.legal = true := by decide +kernel

/-- A configuration with cap 0. -/
def capless : LaneConfig := { Lane.reset.config with cap := 0 }

/-- Lane 0 holds one block, in the reply of a DONE record. -/
def holdingOne : State := setup [{ plain 7 0 with state := .done, replyChain := [20] }] id

theorem witness_LaneConfigWritesTheRecord :
    (∀ u ∈ [moded .pass, busyWith (plain 7 0) .sending, holdingOne, small], Asks u (0x10 :: BitVec.ofNat 8 0 :: capless.bytes)) ∧
    capless.legal = true ∧ ((moded .pass).lane 0).mode = .pass ∧ ((busyWith (plain 7 0) .sending).lane 0).active.isSome = true ∧
    (holdingOne.lane 0).mode ≠ .pass ∧ (holdingOne.lane 0).active = none ∧ (holdingOne.lane 0).phase ≠ .resetting ∧
    capless.cap < holdingOne.held 0 ∧ small.held 0 ≤ capless.cap := by decide +kernel

theorem witness_LaneModeToHold :
    (∀ s ∈ [moded .hold, moded .halt, queuing .waitTime, queuing .waitSpace, queuing .sending], Asks s [0x11, 0, 0]) ∧
    ((moded .hold).lane 0).mode = .hold ∧ ((moded .halt).lane 0).mode = .halt ∧ ((queuing .waitTime).lane 0).mode = .pass ∧
    ((queuing .waitTime).lane 0).phase = .waitTime ∧ ((queuing .waitSpace).lane 0).phase = .waitSpace ∧
    ((queuing .sending).lane 0).phase ≠ .waitTime ∧ ((queuing .sending).lane 0).phase ≠ .waitSpace := by decide +kernel

theorem witness_LaneModeToPass :
    let full := setup [plain 7 0] fun x => { x with queue := [7] }
    let active := setup [plain 7 0] fun x => { x with active := some 7, phase := .sending }
    (∀ s ∈ [moded .halt, moded .pass, active, moded .hold, full], Asks s [0x11, 0, 1]) ∧
    ((moded .halt).lane 0).mode = .halt ∧ ((moded .pass).lane 0).mode = .pass ∧ (active.lane 0).mode = .hold ∧
    (active.lane 0).active.isSome = true ∧ (full.lane 0).mode = .hold ∧ (full.lane 0).active = none ∧
    (full.lane 0).phase ≠ .resetting ∧ ((moded .hold).lane 0).queue = [] ∧ (full.lane 0).queue ≠ [] := by decide +kernel

theorem witness_LaneModeToHaltAborts :
    let s (mark : Bool) := setup [{ plain 7 0 with state := .active, cancelMark := mark }, { plain 8 0 with urgent := true }, plain 9 0]
      fun x => { running .awaitAnswer x with queue := [8] ++ [9] }
    (∀ u ∈ [moded .halt, queuing .waitTime, queuing .waitSpace, moded .hold, s false, s true], Asks u [0x11, 0, 2]) ∧
    ((moded .halt).lane 0).mode = .halt ∧ ((queuing .waitTime).lane 0).mode ≠ .halt ∧ ((queuing .waitTime).lane 0).active = none ∧
    ((queuing .waitTime).lane 0).phase = .waitTime ∧ ((queuing .waitSpace).lane 0).phase = .waitSpace ∧
    ((moded .hold).lane 0).phase ≠ .waitTime ∧ ((moded .hold).lane 0).phase ≠ .waitSpace ∧
    ∀ m ∈ [false, true], ((s m).lane 0).mode ≠ .halt ∧ ((s m).lane 0).active = some 7 ∧
      ((s m).record? 7).map Record.cancelMark = some m ∧ ((s m).lane 0).queue = [8] ++ [9] ∧
      (∀ a ∈ [8], (s m).isUrgent a = true) ∧ ∀ a ∈ [9].head?, (s m).isUrgent a = false := by decide +kernel

theorem witness_LaneStatusReportsThenClears :
    Asks small [0x12, 7, 0] ∧ Asks small [0x12, 7, 1] ∧ (1 : Byte).toNat ≤ 1 ∧ Asks small [0x12, 8, 2] ∧ 8 ≤ (8 : Byte).toNat ∧
    2 ≤ (2 : Byte).toNat := by decide +kernel

theorem witness_LaneFlushCancelsTheQueue :
    let s := setup [plain 7 0] fun x => { x with queue := [7] }
    Asks small [0x13, 0] ∧ Asks s [0x13, 0] ∧ (small.lane 0).queue = [] ∧ (s.lane 0).queue ≠ [] ∧
    TicketsLawful (asked [0x13, 0] s) ∧ LaneQueuesLawful (asked [0x13, 0] s) := by decide +kernel

theorem witness_LaneReseqForcesOrMarks :
    Asks small [0x14, 0, 1] ∧ [0#8, 1].length ≠ 3 ∧ Asks small [0x14, 8, 1, 0] ∧ 8 ≤ (8 : Byte).toNat ∧ Asks small [0x14, 0, 1, 2] ∧
    1 < (2 : Byte).toNat ∧ Asks (moded .pass) [0x14, 0, 1, 1] ∧ ((moded .pass).lane 0).mode = .pass ∧
    Asks small [0x14, 7, 1, 1] ∧ Asks small [0x14, 7, 2, 0] ∧
    ¬((small.lane 7).mode = .pass ∨ (small.lane 7).active.isSome = true ∨ (small.lane 7).phase = .resetting) := by decide +kernel

theorem witness_DropResetBeginsTheBreak :
    Asks small [0x15] ∧ ([] : List Byte).length ≠ 1 ∧ Asks small [0x15, 8] ∧ 8 ≤ (8 : Byte).toNat ∧ Asks (moded .pass) [0x15, 0] ∧
    ((moded .pass).lane 0).mode = .pass ∧ Asks small [0x15, 7] ∧
    ¬((small.lane 7).mode = .pass ∨ (small.lane 7).active.isSome = true ∨ (small.lane 7).phase = .resetting) := by decide +kernel

/-- A SUBMIT of 288 bytes, 9 blocks, with both optional fields. -/
def bigSubmit : SubmitArgs := ⟨0, true, true, true, some 0xFFFFFFFF#32, some 512, List.replicate 288 0⟩

theorem witness_EverySubmitBodyIsReadBack : bigSubmit.Legal := by decide +kernel

theorem witness_SubmitIsRefusedInOrder :
    let table := setup (List.replicate 128 (plain 7 1)) id
    let capped := setup [] fun x => { x with config := { x.config with cap := 8 } }
    let protective := { small with pool := ⟨small.pool.free, [⟨1, 1⟩]⟩ }
    (∀ s ∈ [table, capped, protective], Asks s (submitBody bigSubmit)) ∧ bigSubmit.Legal ∧ 128 ≤ table.table.records.length ∧
    capped.table.records.length < 128 ∧ (capped.lane 0).config.cap < capped.held 0 + 9 ∧
    protective.held 0 + 9 ≤ (protective.lane 0).config.cap ∧ protective.freeCount < 9 + 1 ∧
    ((protective.pool.waiting.filter fun e =>
      decide (protective.held e.lane + e.need ≤ (protective.lane e.lane).config.cap)).map WaitEntry.need).sum = 1 := by decide +kernel

/-- An URGENT SUBMIT of 288 bytes: to an idle lane in PASS, to one that waits for space behind its own cap, to one in HOLD. -/
theorem witness_SubmitCreatesAndQueuesTheRecord :
    let a : SubmitArgs := ⟨0, true, false, false, none, none, List.replicate 288 0⟩
    let waiting : State := { setup [plain 7 0] fun x =>
        { x with mode := .pass, phase := .waitSpace, queue := [7], config := { x.config with cap := 9 } } with
      pool := ⟨9 :: small.pool.free, [⟨0, 1⟩]⟩ }
    (∀ u ∈ [moded .pass, waiting, moded .hold], Asks u (submitBody a) ∧ u.table.records.length < 128 ∧
      u.held 0 + 9 ≤ (u.lane 0).config.cap ∧ u.protectedSum + 9 ≤ u.freeCount ∧ u.table.issue = some 100) ∧ a.Legal ∧
    (((moded .pass).createRecord a 100).lane 0).mode = .pass ∧ (((moded .pass).createRecord a 100).lane 0).phase = .idle ∧
    (((moded .pass).createRecord a 100).lane 0).queue = [] ++ [] ∧ ((waiting.createRecord a 100).lane 0).mode = .pass ∧
    ((waiting.createRecord a 100).lane 0).phase = .waitSpace ∧ ((waiting.createRecord a 100).lane 0).queue = [] ++ [7] ∧
    (∀ b ∈ [7].head?, (waiting.createRecord a 100).isUrgent b = false) ∧ ([] ++ 100 :: [7]).head? = some 100 ∧
    (((moded .hold).createRecord a 100).lane 0).mode ≠ .pass := by decide +kernel

theorem witness_TicketIssuedIsTheNextFreeOne :
    let m : MessageTable := ⟨List.replicate 127 (plain 65535 0), 65535, []⟩
    m.records.length < 128 ∧ 1 ≤ m.counter ∧ m.counter ≤ 65535 := by decide +kernel

/-- Among them the heads of busy and RESETTING lanes in PASS (R51). -/
theorem witness_CancelEndsAQueuedRecord :
    let held := setup [plain 7 0] fun x => { x with queue := [7] }
    let behind (p : Phase) := setup [plain 7 0, { plain 8 0 with state := .active }] fun x =>
      { running p x with active := some 8, queue := [7] }
    (∀ s ∈ [queuing .idle, queuing .waitSpace, queuing .waitTime, held, queuing .resetting, behind .waitSlot, behind .sending,
        behind .awaitAnswer, behind .backoff],
      Asks s [0x21, 0, 7] ∧ (s.record? 7).map Record.state = some .queued ∧ (s.lane 0).queue.head? = some 7) ∧
    (0 : Byte).toNat * 256 + (7 : Byte).toNat ≠ 0 ∧ (held.lane 0).mode ≠ .pass ∧ (held.lane 0).phase ≠ .waitSpace ∧
    (∀ s ∈ [queuing .resetting, behind .waitSlot, behind .sending, behind .awaitAnswer, behind .backoff],
      (s.lane 0).mode = .pass ∧ (s.lane 0).phase ≠ .idle ∧ (s.lane 0).phase ≠ .waitTime ∧ (s.lane 0).phase ≠ .waitSpace) ∧
    ((queuing .waitSpace).lane 0).mode = .pass ∧ ((queuing .waitSpace).lane 0).phase = .waitSpace ∧
    (∀ s ∈ [queuing .idle, queuing .waitTime],
      (s.lane 0).mode = .pass ∧ ((s.lane 0).phase = .idle ∨ (s.lane 0).phase = .waitTime) ∧ s.isWaiting 0 = false) := by decide +kernel

theorem witness_CancelMarksAnActiveRecord :
    let r := { plain 7 0 with state := .active }
    let held := setup [r] fun x => { running .backoff x with mode := .hold }
    Asks small [0x21, 0xFF, 0xFF] ∧ small.record? 65535 = none ∧
    (∀ s ∈ [busyWith r .sending, busyWith r .waitSlot, held], Asks s [0x21, 0, 7] ∧ (s.record? 7).map Record.state = some .active) ∧
    ((setup [{ r with state := .done }] id).record? 7).map Record.state = some .done ∧
    ((busyWith r .sending).lane 0).phase ≠ .waitSlot ∧ ((busyWith r .sending).lane 0).phase ≠ .backoff ∧
    ((busyWith r .waitSlot).lane 0).phase = .waitSlot ∧ ((busyWith r .waitSlot).lane 0).mode = .pass ∧
    (held.lane 0).phase = .backoff ∧ (held.lane 0).mode ≠ .pass := by decide +kernel

theorem witness_QueryReportsTheRecord :
    Asks small [0x22, 0, 0] ∧ Asks small [0x22, 0, 1] ∧ small.record? 1 = none ∧ Asks (queuing .idle) [0x22, 0, 7] ∧
    ((queuing .idle).record? 7).map Record.ticket = some 7 := by decide +kernel

theorem witness_ReplyReadReturnsTheReplyBytes :
    let r := { plain 7 0 with state := .done, replyWanted := true, replyLength := 1, reply := [9] }
    Asks small [0x23, 0, 1, 0, 0, 1, 1] ∧ 256 < (1 : Byte).toNat * 256 + (1 : Byte).toNat ∧ Asks small [0x23, 0, 1, 0, 0, 1, 0] ∧
    small.record? 1 = none ∧ Asks (queuing .idle) [0x23, 0, 7, 0, 0, 0, 1] ∧ ((queuing .idle).record? 7).map Record.state = some .queued ∧
    Asks (setup [r] id) [0x23, 0, 7, 0, 2, 0, 1] ∧ Asks (setup [r] id) [0x23, 0, 7, 0, 1, 0, 1] ∧
    (setup [r] id).record? 7 = some r ∧ r.replyLength < 2 ∧ 1 ≤ r.replyLength ∧ r.reply.length = r.replyLength := by decide +kernel

theorem witness_CollectListsTheOldestOutcomes :
    let r := { plain 7 0 with state := .done }
    let s : State := { setup [r] id with table := ⟨[r], 100, [7]⟩ }
    Asks s [0x24, 8, 1] ∧ 8 ≤ (8 : Byte).toNat ∧ (8 : Byte).toNat ≠ 255 ∧ Asks s [0x24, 255, 65] ∧ 64 < (65 : Byte).toNat ∧
    Asks s [0x24, 7, 64] ∧ Asks s [0x24, 255, 1] ∧ (7 : Byte).toNat < 8 ∧
    [r].map (fun r => some r) = s.table.completion.map s.record? := by decide +kernel

theorem witness_RetireRemovesATerminalRecord :
    let r := { plain 7 0 with state := .done }
    Asks small [0x25, 0, 0] ∧ Asks small [0x25, 0, 1] ∧ small.record? 1 = none ∧ Asks (queuing .idle) [0x25, 0, 7] ∧
    ((queuing .idle).record? 7).map Record.state = some .queued ∧ Asks (setup [r] id) [0x25, 0, 7] ∧
    (setup [r] id).record? 7 = some r ∧ r.payloadChain ++ r.replyChain = [] ∧
    { r with replyChain := [20] }.payloadChain ++ { r with replyChain := [20] }.replyChain ≠ [] := by decide +kernel

theorem witness_ReportTakeRemovesTheOldest :
    let s := setup [] fun x => { x with holding := [⟨[1], 7⟩] }
    Asks s [0x30] ∧ Asks s [0x30, 8] ∧ 8 ≤ (8 : Byte).toNat ∧ Asks s [0x30, 7] ∧ (s.lane 7).holding = [] ∧ Asks s [0x30, 0] ∧
    (s.lane 0).holding = ⟨[1], 7⟩ :: [] := by decide +kernel

/-- A pause of 8093 periods of CLKIN and one tick are the last within the limit of code 3. -/
theorem witness_TickCountsEverythingOnce :
    (State.whileReset 0 []).resetLow = true ∧ awaiting.resetLow = false ∧ awaiting.settled = true ∧
    (paused 8093 (receiving (wanting 7) 0x07 30 .unexpected id)).settled = true ∧
    (∀ l : LaneId, (awaiting.lane l).gapOver (TickSample.idle.drx.get l).lead = false) ∧
    (∀ l : LaneId, ((paused 8093 (receiving (wanting 7) 0x07 30 .unexpected id)).lane l).gapOver
      (TickSample.idle.drx.get l).lead = false) ∧
    (small.lane 0).slots.due = false ∧ ((setup [] fun x => { x with slots := ⟨0, 0, true⟩ }).lane 0).slots.due = true := by
  decide +kernel

/-- The last clauses on an entry that its own scan grants at once, behind an older cap-blocked one, and on one that waits. -/
theorem witness_HeadIsJudgedByTimeThenSpace :
    let r (n : Nat) := { plain 7 0 with replyWanted := true, replyLimit := some n, releaseTime := some 0 }
    let s (n free : Nat) (time : PartTime) : State :=
      { setup [r n] fun x => { x with mode := .pass, phase := .waitTime, queue := [7] } with
        pool := ⟨List.range free, []⟩, time := time }
    let behind : State := { s 32 1 0 with pool := ⟨[0], [⟨1, 65⟩]⟩ }
    let scanned (v : State) (need : Nat) : State := State.grantScan
      { v.withLane 0 { v.lane 0 with phase := .waitSpace } with pool := { v.pool with waiting := v.pool.waiting ++ [⟨0, need⟩] } }
    (small.lane 0).queue = [] ∧
    (∀ p ∈ [(1, 1, 0x80000000#32), (0, 0, 0x7FFFFFFF#32), (32, 1, 0), (33, 1, 0)], (s p.1 p.2.1 p.2.2).head? 0 = some (r p.1)) ∧
    ¬((0x80000000#32 - 0).toNat < 2 ^ 31) ∧ (0x7FFFFFFF#32 - 0).toNat < 2 ^ 31 ∧
    (32 + 31) / 32 ≤ (s 32 1 0).freeCount ∧ (s 32 1 0).held 0 + 1 ≤ ((s 32 1 0).lane 0).config.cap ∧
    ¬((33 + 31) / 32 ≤ (s 33 1 0).freeCount) ∧ ((s 33 1 0).lane 0).mode = .pass ∧ ((s 33 1 0).lane 0).phase = .waitTime ∧
    behind.head? 0 = some (r 32) ∧ behind.pool.waiting ≠ [] ∧ (∀ e ∈ (scanned behind 1).pool.waiting, e.lane ≠ 0) ∧
    ∃ e ∈ (scanned (s 33 1 0) 2).pool.waiting, e.lane = 0 := by
  decide +kernel

theorem witness_HeadChangeUpdatesTheWaitingEntry :
    (small.lane 0).queue = [] ∧ (queuing .waitSpace).head? 0 = some (plain 7 0) := by decide +kernel

/-- Lane 0 holds the one block 511 of its queued record; every other block is free. -/
def oneQueued : State :=
  { State.reset with
    pool := ⟨List.range 511, []⟩
    table := ⟨[newRecord ⟨0, false, false, false, none, none, [5]⟩ 1 64 [511]], 2, []⟩
    lanes := (State.reset.lanes.set 0 { Lane.reset with queue := [1] }) }

theorem witness_BlocksConserved : BlocksConserved oneQueued := List.Perm.of_eq (by decide +kernel)

theorem witness_Lawful : Lawful oneQueued :=
  ⟨by decide +kernel, witness_BlocksConserved, by decide +kernel, by decide +kernel, by decide +kernel, by decide +kernel,
   by decide +kernel, by decide +kernel, by decide +kernel⟩

/-- `n` DONE records of lane 1 hold replies of 512 bytes; the other blocks are free, and the head of lane 0 waits for 2 of them. -/
def crowded (n : Nat) : State :=
  let kept (i : Nat) : Record :=
    { plain (i + 2) 1 with
      state := .done, replyWanted := true, replyLimit := some 512, replyLength := 512, completionTime := some 0,
      reply := List.replicate 512 0, replyChain := (List.range 16).map (512 - 16 * n + 16 * i + ·) }
  { State.reset with
    pool := ⟨List.range (512 - 16 * n), [⟨0, 2⟩]⟩
    table := ⟨{ plain 1 0 with replyWanted := true, replyLimit := some 64 } :: (List.range n).map kept, 100,
      (List.range n).map (· + 2)⟩
    lanes := (State.reset.lanes.set 0 { Lane.reset with mode := .pass, phase := .waitSpace, queue := [1] }).set 1
      { Lane.reset with config := { Lane.reset.config with cap := 512 } } }

theorem crowded_lawful : Lawful (crowded 31) ∧ Lawful (crowded 32) :=
  ⟨⟨by decide +kernel, List.Perm.of_eq (by decide +kernel), by decide +kernel, by decide +kernel, by decide +kernel,
    by decide +kernel, by decide +kernel, by decide +kernel, by decide +kernel⟩,
   ⟨by decide +kernel, List.Perm.of_eq (by decide +kernel), by decide +kernel, by decide +kernel, by decide +kernel,
    by decide +kernel, by decide +kernel, by decide +kernel, by decide +kernel⟩⟩

/-- With 16 free blocks the waiting entry is served; with none it goes on waiting. -/
theorem witness_ScanServesAllItMay :
    (Lawful (crowded 31) ∧ Lawful (crowded 32)) ∧ (crowded 31).pool.waiting = [] ++ ⟨0, 2⟩ :: [] ∧
    (crowded 31).held 0 + 2 ≤ ((crowded 31).lane 0).config.cap ∧ 2 ≤ (crowded 31).freeCount ∧
    (crowded 32).grantScan.pool.waiting = [] ++ ⟨0, 2⟩ :: [] ∧
    (crowded 32).grantScan.held 0 + 2 ≤ ((crowded 32).grantScan.lane 0).config.cap := ⟨crowded_lawful, by decide +kernel⟩

theorem witness_ScanWalksFromTheOldest :
    let r := { plain 7 0 with replyWanted := true, replyLimit := some 64 }
    let s (cap free : Nat) : State :=
      { setup [r] fun x => { x with mode := .pass, phase := .waitSpace, queue := [7], config := { x.config with cap := cap } } with
        pool := ⟨List.range free, [⟨0, 2⟩]⟩ }
    (∀ p ∈ [(1, 2), (2, 2), (2, 1)], (s p.1 p.2).head? 0 = some r) ∧ ((s 1 2).lane 0).config.cap < (s 1 2).held 0 + 2 ∧
    (s 2 2).held 0 + 2 ≤ ((s 2 2).lane 0).config.cap ∧ 2 ≤ (s 2 2).freeCount ∧ (s 2 1).freeCount < 2 := by decide +kernel

/-- The last clauses in each state of the transmitter, and in a stop bit's first and last period at 115200 bit/s: bit time 9 runs from
1875 to 2083 periods of CLKIN. -/
theorem witness_FrameStartsAndEnds :
    let s (n c : Nat) := setup [plain 7 0] fun x =>
      { running .waitSlot x with config := { x.config with pacingNum := n }, slots := ⟨0, c, false⟩ }
    let p (tx : DropTx) : DropPort := ⟨tx, .hunting, none, none⟩
    ((s 0 0).lane 0).active = some 7 ∧ (s 0 0).record? 7 = some (plain 7 0) ∧ ((s 0 0).lane 0).phase = .waitSlot ∧
    ((s 0 0).lane 0).config.pacingNum = 0 ∧ 1 ≤ ((s 1 1).lane 0).slots.credits ∧ ((s 1 0).lane 0).config.pacingNum ≠ 0 ∧
    ((s 1 0).lane 0).slots.credits = 0 ∧ ((busyWith (plain 7 0) .sending).lane 0).phase = .sending ∧
    (p (.sending [0x6C])).tx = .sending [0x6C] ∧ (p .idle).tx = .idle ∧ (p .breaking).tx = .breaking ∧
    [0x6C#8][0]? = some 0x6C#8 ∧ (10 * 0 + 9) * 24000000 ≤ 1875 * dropRate 3 ∧ 2083 * dropRate 3 < (10 * 0 + 9 + 1) * 24000000 ∧
    10 * [0x6C#8].length * 24000000 ≤ 2084 * dropRate 3 := by decide +kernel

theorem witness_AckTimeoutIsAMiss :
    let r (misses : Nat) (mark : Bool) := { plain 7 0 with state := .active, misses := misses, cancelMark := mark }
    let s (misses : Nat) (mark : Bool) (m : Mode) (p : FailurePolicy) := setup [r misses mark] fun x =>
      { running .awaitAnswer x with mode := m, ackTimer := some 0, config := { x.config with retryLimit := 1, failurePolicy := p } }
    (∀ n ∈ [0, 1], ∀ k ∈ [false, true], ∀ m ∈ [Mode.hold, .pass], ∀ p ∈ [FailurePolicy.halt, .skip],
      let x := (s n k m p).lane 0
      x.phase = .awaitAnswer ∧ x.ackTimer = some 0 ∧ x.active = some 7 ∧ (s n k m p).record? 7 = some (r n k) ∧ x.backoffTimer = none ∧
      (s n k m p).isWaiting 0 = false ∧ x.mode = m ∧ x.config.failurePolicy = p ∧ (r n k).cancelMark = k) ∧
    min 255 (0 + 1) ≤ 1 ∧ 1 < min 255 (1 + 1) := by decide +kernel

theorem witness_LaneTimersExpire :
    let back := setup [] fun x => { running .backoff x with backoffTimer := some 0 }
    let reset (m : Mode) (b r : Option Nat) := setup [] fun x =>
      { x with mode := m, phase := .resetting, port := ⟨.breaking, .discarding, b, r⟩ }
    (back.lane 0).phase = .backoff ∧ (back.lane 0).backoffTimer = some 0 ∧
    ((reset .hold (some 0) none).lane 0).phase = .resetting ∧ ((reset .hold (some 0) none).lane 0).port.breakTimer = some 0 ∧
    ((reset .hold none (some 0)).lane 0).port.recoveryTimer = some 0 ∧ ((reset .hold none (some 0)).lane 0).mode ≠ .pass ∧
    ((reset .pass none (some 0)).lane 0).mode = .pass ∧ (small.lane 0).phase ≠ .backoff ∧ (small.lane 0).phase ≠ .resetting := by
  decide +kernel

theorem witness_ReceiverTakesTheHeader :
    let s := awaiting.onPort 0 fun p => { p with rx := .header false 0 }
    (small.lane 0).port.rx = .hunting ∧ small.resetLow = false ∧ (State.whileReset 0 []).resetLow = true ∧
    (s.lane 0).port.rx = .header false 0 ∧ (s.lane 0).phase = .awaitAnswer ∧
    (s.lane 0).ackTimer.isSome = true ∧ (7 : Byte).toNat % 8 = 7 ∧ (2 : Byte).toNat * 256 + (0 : Byte).toNat ≤ 512 ∧
    ¬((2 : Byte).toNat * 256 + (1 : Byte).toNat ≤ 512) ∧ ¬(4 ≤ (3 : Byte).toNat % 8) := by decide +kernel

/-- A pause of 8200 and 133 periods is the last within the limit of code 3. Frames cut, and frames damaged at their end by a bad
check or a changed rate, expected with either seq and not. -/
theorem witness_CutFrameIsDamaged :
    let x (f : Receiver) : Lane := { Lane.reset with port := ⟨.idle, f, none, none⟩ }
    let s (control : Byte) (length : Nat) (a : AnswerClass) (mark : Bool) := receiving { wanting 7 with cancelMark := mark } control length a id
    (x (.header true 8200)).port.rx = .header true 8200 ∧ [1#8, 2].length < 3 ∧
    4 * 10 * 24000000 < (8200 + 134) * dropRate Lane.reset.config.lineRate ∧
    ¬(4 * 10 * 24000000 < (8200 + 133) * dropRate Lane.reset.config.lineRate) ∧
    [1#8, 2].length < 1 + 2 ∧ [1#8, 2, 3].length = 1 + 2 ∧
    [1#8, 2, 3].drop 1 ≠ checkBytes (crcMore 0#16 ([1#8, 2, 3].take 1)) ∧
    { RxFrame.mk 4 0 4 0 .expected true 0 with length := 1 }.rateChanged = true ∧
    (∀ c ∈ [4#8, 7, 15], ∀ a ∈ [AnswerClass.expected, .unexpected, .report], ∀ m ∈ [false, true],
      ((s c 1 a m).lane 0).port.rx = .frame ⟨c, 1, 4, 0#16, a, false, 0⟩ ∧ ((s c 1 a m).lane 0).active = some 7 ∧
      (s c 1 a m).record? 7 = some { wanting 7 with cancelMark := m }) ∧
    (15#8).getLsbD 3 ≠ ((s 15 1 .expected false).lane 0).seq ∧ (7#8).getLsbD 3 = ((s 7 1 .expected false).lane 0).seq ∧
    (wanting 7).replyWanted = true ∧ (x .hunting).port.rx = .hunting ∧ (x .discarding).port.rx = .discarding := by decide +kernel

/-- Among them the batch end, and a quota of 3 with 1 left (R60) and with 2 left. -/
theorem witness_CompletingAnswerEndsTheMessage :
    let s (control : Byte) (n : Nat) (m : Mode) (b : Bool) (q : Nat × Nat) :=
      receiving { wanting 7 with batchEnd := b } control n .expected fun x =>
        { x with mode := m, quotaLeft := q.2, config := { x.config with quota := q.1 } }
    ∀ c ∈ [(4#8, 0), (7#8, 40)], ∀ m ∈ [Mode.hold, .pass], ∀ b ∈ [false, true], ∀ q ∈ [(0, 0), (3, 2), (3, 1)],
      let u := s c.1 c.2 m b q
      let x := u.lane 0
      x.port.rx = .frame ⟨c.1, c.2, 4, 0#16, .expected, false, 0⟩ ∧ c.1.getLsbD 3 = x.seq ∧ (List.replicate c.2 0#8).length = c.2 ∧
      x.active = some 7 ∧ u.record? 7 = some { wanting 7 with batchEnd := b } ∧ x.config.quota = q.1 ∧ x.quotaLeft = q.2 ∧
      u.isWaiting 0 = false ∧
      (c.1.toNat % 8 = 4 ∧ c.2 = 0 ∨ c.1.toNat % 8 = 7 ∧ c.2 ≤ (wanting 7).replyLimit.getD 0) ∧ x.mode = m := by decide +kernel

/-- BUSY within the limit of 50 and above it, a wrong seq, REJECT and an oversize REPLY, marked and not; and a stray on a lane without an
active message. -/
theorem witness_OtherAnswersAreJudged :
    (∀ c ∈ [(5#8, 0), (13#8, 0), (6#8, 1), (7#8, 41)], ∀ a ∈ [AnswerClass.expected, .unexpected], ∀ k ∈ [false, true], ∀ n ∈ [49, 50],
      let s := receiving { wanting 7 with cancelMark := k } c.1 c.2 a fun x => { x with busyCount := n }
      let x := s.lane 0
      x.port.rx = .frame ⟨c.1, c.2, 4, 0#16, a, false, 0⟩ ∧ (List.replicate c.2 0#8).length = c.2 ∧ x.active = some 7 ∧
      s.record? 7 = some { wanting 7 with cancelMark := k } ∧ (c.1.getLsbD 3 = x.seq ∨ c.1 = 13#8) ∧ x.busyCount = n ∧
      x.config.busyLimit = 50) ∧
    (13#8).getLsbD 3 ≠ Lane.reset.seq ∧ (5#8).toNat % 8 = 5 ∧ 49 + 1 ≤ 50 ∧ 50 < 50 + 1 ∧ (6#8).toNat % 8 = 6 ∧
    (7#8).toNat % 8 = 7 ∧ (wanting 7).replyWanted = true ∧ (wanting 7).replyLimit.getD 0 < 41 ∧
    let idle := receiving (wanting 7) 4 0 .unexpected fun x => { x with active := none, phase := .idle }
    (idle.lane 0).port.rx = .frame ⟨4, 0, 4, 0#16, .unexpected, false, 0⟩ ∧ (idle.lane 0).active = none := by decide +kernel

theorem witness_ReportJoinsTheHoldingOrIsLost :
    let s (held : List Report) := receiving (wanting 7) 3 64 .report fun x => { x with holding := held }
    ∀ held ∈ [[], [⟨[], 1⟩], [⟨[], 1⟩, ⟨[2], 3⟩]],
      ((s held).lane 0).port.rx = .frame ⟨3, 64, 4, 0#16, .report, false, 0⟩ ∧ (List.replicate 64 0#8).length = 64 ∧
      ((s held).lane 0).holding = held := by decide +kernel

theorem witness_EveryStepKeepsTheQueueBounds :
    QueuesBounded { oneQueued with pending := [.identify] } ∧ HoldingsBounded { oneQueued with pending := [.identify] } ∧
    step { oneQueued with pending := [.identify] } = .next oneQueued := ⟨by decide +kernel, by decide +kernel, rfl⟩

theorem witness_EveryStepKeepsTheGeneratorLaws :
    GeneratorsLawful oneQueued ∧ step oneQueued = .next oneQueued := ⟨by decide +kernel, rfl⟩

theorem witness_EveryStepConservesBlocksAndTickets :
    TicketsLawful oneQueued ∧ BlocksConserved oneQueued ∧ step oneQueued = .next oneQueued :=
  ⟨by decide +kernel, witness_BlocksConserved, rfl⟩

theorem witness_EveryStepKeepsTheLawsOfThePart : Lawful oneQueued ∧ step oneQueued = .next oneQueued := ⟨witness_Lawful, rfl⟩

end Sys2Proof.Tests
end

section
/-! PROOFS. Message records and tickets: what SUBMIT, CANCEL, QUERY, REPLY_READ, COLLECT and RETIRE answer and change. -/

namespace Sys2Proof.Proofs.Messages

-- One theorem at a time, as in the tests: each elaboration thread takes 1 GiB of the check's memory limit.
set_option Elab.async false

open Sys2Proof Sys2Proof.Machine

/-! ### One request taken and answered -/

/-- The request command of the oldest intake entry, once its meaning on the body is known. -/
theorem takeRequest_of_run {s u : State} {tag code : Byte} {args : List Byte} {rest : List Request} {row : RequestRow}
    {run : List Byte → State → Reply × State} {r : Reply} (h : Taken s ⟨tag, code :: args⟩ rest)
    (hrow : requestRow (code :: args) = row) (hrun : run (code :: args) (s.taken rest) = (r, u)) :
    s.takeRequest row run = u.appends tag (code :: r.status.code :: r.content) := by
  subst hrow
  rw [takeRequest_of_taken h, hrun]
  rfl

section
variable {s u : State} {tag : Byte} {args : List Byte} {rest : List Request} {r : Reply}

theorem exec_submit_of_run (h : Taken s ⟨tag, 0x20 :: args⟩ rest) (hrun : runSubmit (0x20 :: args) (s.taken rest) = (r, u)) :
    exec .submit s = .next (u.appends tag (0x20 :: r.status.code :: r.content)) :=
  congrArg Host.Outcome.next (takeRequest_of_run h rfl hrun)

theorem exec_cancel_of_run (h : Taken s ⟨tag, 0x21 :: args⟩ rest) (hrun : runCancel (0x21 :: args) (s.taken rest) = (r, u)) :
    exec .cancel s = .next (u.appends tag (0x21 :: r.status.code :: r.content)) :=
  congrArg Host.Outcome.next (takeRequest_of_run h rfl hrun)

theorem exec_query_of_run (h : Taken s ⟨tag, 0x22 :: args⟩ rest) (hrun : runQuery (0x22 :: args) (s.taken rest) = (r, u)) :
    exec .query s = .next (u.appends tag (0x22 :: r.status.code :: r.content)) :=
  congrArg Host.Outcome.next (takeRequest_of_run h rfl hrun)

theorem exec_replyRead_of_run (h : Taken s ⟨tag, 0x23 :: args⟩ rest)
    (hrun : runReplyRead (0x23 :: args) (s.taken rest) = (r, u)) :
    exec .replyRead s = .next (u.appends tag (0x23 :: r.status.code :: r.content)) :=
  congrArg Host.Outcome.next (takeRequest_of_run h rfl hrun)

theorem exec_collect_of_run (h : Taken s ⟨tag, 0x24 :: args⟩ rest) (hrun : runCollect (0x24 :: args) (s.taken rest) = (r, u)) :
    exec .collect s = .next (u.appends tag (0x24 :: r.status.code :: r.content)) :=
  congrArg Host.Outcome.next (takeRequest_of_run h rfl hrun)

theorem exec_retire_of_run (h : Taken s ⟨tag, 0x25 :: args⟩ rest) (hrun : runRetire (0x25 :: args) (s.taken rest) = (r, u)) :
    exec .retire s = .next (u.appends tag (0x25 :: r.status.code :: r.content)) :=
  congrArg Host.Outcome.next (takeRequest_of_run h rfl hrun)

end

/-! ### What a request finds once it is taken -/

section
variable (s : State) (rest : List Request)

@[simp] theorem taken_table : (s.taken rest).table = s.table := rfl
@[simp] theorem lane_taken (l : LaneId) : (s.taken rest).lane l = s.lane l := rfl
@[simp] theorem record?_taken (t : Ticket) : (s.taken rest).record? t = s.record? t := rfl
@[simp] theorem held_taken (l : LaneId) : (s.taken rest).held l = s.held l := rfl
@[simp] theorem freeCount_taken : (s.taken rest).freeCount = s.freeCount := rfl
@[simp] theorem protectedSum_taken : (s.taken rest).protectedSum = s.protectedSum := rfl
@[simp] theorem queryContent_taken (r : Record) : (s.taken rest).queryContent r = s.queryContent r := rfl
@[simp] theorem collectContent_taken (f : Option LaneId) (n : Nat) :
    (s.taken rest).collectContent f n = s.collectContent f n := rfl

end

/-! ### Tickets and bytes in a body -/

/-- Ticket 0 is no ticket (R190). -/
theorem ticketArgs_of_zero {c hi lo : Byte} (h : hi.toNat * 256 + lo.toNat = 0) :
    ticketArgs [c, hi, lo] = .error .badArgument := by
  simp [ticketArgs, ticketArgument, argument, natOf_pair, h]

theorem ticketArgs_of_ne {c hi lo : Byte} (h : hi.toNat * 256 + lo.toNat ≠ 0) :
    ticketArgs [c, hi, lo] = .ok (hi.toNat * 256 + lo.toNat) := by
  simp only [ticketArgs, ticketArgument, argument, natOf_pair, bne_iff_ne, ne_eq, h, not_false_eq_true, if_true]

theorem bytesOf_one (n : Nat) : bytesOf 1 n = [BitVec.ofNat 8 n] := by simp [bytesOf]

/-- Two bytes are the 16-bit field of the number that they spell. -/
theorem bytesOf_two_pair (hi lo : Byte) : bytesOf 2 (hi.toNat * 256 + lo.toNat) = [hi, lo] := by
  have h1 : (hi.toNat * 256 + lo.toNat) / 256 = hi.toNat := by omega
  have h2 : BitVec.ofNat 8 (hi.toNat * 256 + lo.toNat) = lo := BitVec.eq_of_toNat_eq (by simp; omega)
  simp [bytesOf, h1, h2]

theorem natOf_append (a b : List Byte) : natOf (a ++ b) = natOf a * 256 ^ b.length + natOf b := by
  induction b using List.reverseRecOn with
  | nil => simp [natOf]
  | append_singleton b x ih =>
    have snoc : ∀ c : List Byte, natOf (c ++ [x]) = natOf c * 256 + x.toNat := fun c => by simp [natOf]
    rw [← List.append_assoc, snoc, snoc, ih]
    simp [pow_succ]
    ring

/-- A field of `k` bytes reads back modulo `256 ^ k`. -/
theorem natOf_bytesOf (k n : Nat) : natOf (bytesOf k n) = n % 256 ^ k := by
  induction k with
  | zero => simp [bytesOf, natOf, Nat.mod_one]
  | succ k ih =>
    have h1 : natOf [BitVec.ofNat 8 (n / 256 ^ k)] = n / 256 ^ k % 256 := by simp [natOf]
    calc natOf (bytesOf (k + 1) n)
        = natOf ([BitVec.ofNat 8 (n / 256 ^ k)] ++ bytesOf k n) := rfl
      _ = n / 256 ^ k % 256 * 256 ^ k + n % 256 ^ k := by rw [natOf_append, h1, ih, bytesOf_length]
      _ = n % 256 ^ (k + 1) := by rw [pow_succ, Nat.mod_mul]; ring

/-! ### SUBMIT read back (R188, R189) -/

/-- The flags byte of a SUBMIT body as `submitBody` writes it. -/
def submitFlags (a : SubmitArgs) : Byte :=
  BitVec.ofNat 8 (a.urgent.toNat + 2 * a.batchEnd.toNat + 4 * a.replyWanted.toNat + 8 * a.releaseTime.isSome.toNat +
    16 * a.replyLimit.isSome.toNat)

/-- The release time of a SUBMIT body, where there is one. -/
def timeField (a : SubmitArgs) : List Byte := a.releaseTime.elim [] fun t => bytesOf 4 t.toNat

/-- The reply limit of a SUBMIT body, where there is one. -/
def limitField (a : SubmitArgs) : List Byte := a.replyLimit.elim [] fun n => bytesOf 2 n

/-- What stands behind the flags of a SUBMIT body. -/
def submitFields (a : SubmitArgs) : List Byte :=
  timeField a ++ (limitField a ++ (bytesOf 2 a.payload.length ++ a.payload))

theorem submitBody_eq (a : SubmitArgs) :
    submitBody a = 0x20 :: BitVec.ofNat 8 a.lane.val :: submitFlags a :: submitFields a := by
  unfold submitBody submitFields timeField limitField submitFlags
  cases a.releaseTime <;> cases a.replyLimit <;> simp

/-- Five flags in one byte, bit by bit. -/
theorem fiveFlags_bits (b0 b1 b2 b3 b4 : Bool) :
    let flags : Byte := BitVec.ofNat 8 (b0.toNat + 2 * b1.toNat + 4 * b2.toNat + 8 * b3.toNat + 16 * b4.toNat)
    flags.getLsbD 0 = b0 ∧ flags.getLsbD 1 = b1 ∧ flags.getLsbD 2 = b2 ∧ flags.getLsbD 3 = b3 ∧ flags.getLsbD 4 = b4 ∧
      (flags &&& 0xE0#8 == 0) = true := by
  revert b0 b1 b2 b3 b4; decide

theorem timeField_length (a : SubmitArgs) : (timeField a).length = timeBytes (submitFlags a) := by
  obtain ⟨-, -, -, h3, -⟩ := fiveFlags_bits a.urgent a.batchEnd a.replyWanted a.releaseTime.isSome a.replyLimit.isSome
  rw [timeBytes, submitFlags, h3, timeField]
  cases a.releaseTime <;> simp

theorem limitField_length (a : SubmitArgs) : (limitField a).length = limitBytes (submitFlags a) := by
  obtain ⟨-, -, -, -, h4, -⟩ := fiveFlags_bits a.urgent a.batchEnd a.replyWanted a.releaseTime.isSome a.replyLimit.isSome
  rw [limitBytes, submitFlags, h4, limitField]
  cases a.replyLimit <;> simp

/-- The flags say where the release time stands. -/
theorem submitFields_time (a : SubmitArgs) : (submitFields a).take (timeBytes (submitFlags a)) = timeField a :=
  List.take_left' (timeField_length a)

/-- The flags say where the reply limit stands. -/
theorem submitFields_limit (a : SubmitArgs) :
    ((submitFields a).drop (timeBytes (submitFlags a))).take (limitBytes (submitFlags a)) = limitField a := by
  rw [submitFields, List.drop_left' (timeField_length a), List.take_left' (limitField_length a)]

/-- The flags say where the payload's length and the payload stand. -/
theorem submitFields_payload (a : SubmitArgs) :
    (submitFields a).drop (timeBytes (submitFlags a) + limitBytes (submitFlags a)) =
      bytesOf 2 a.payload.length ++ a.payload := by
  rw [← List.drop_drop, submitFields, List.drop_left' (timeField_length a), List.drop_left' (limitField_length a)]

/-- The release time of a SUBMIT reads back. -/
theorem timeField_read (a : SubmitArgs) :
    (if a.releaseTime.isSome then some (BitVec.ofNat 32 (natOf (timeField a))) else none) = a.releaseTime := by
  unfold timeField
  cases a.releaseTime with
  | none => rfl
  | some t =>
    have ht : natOf (bytesOf 4 t.toNat) = t.toNat := (natOf_bytesOf 4 _).trans (Nat.mod_eq_of_lt t.isLt)
    simp [ht]

/-- The number in the reply limit's place is the limit, 0 where there is none. -/
theorem natOf_limitField {a : SubmitArgs} (h : a.Legal) : natOf (limitField a) = a.replyLimit.getD 0 := by
  obtain ⟨-, hlim, -⟩ := h
  unfold limitField
  cases hl : a.replyLimit with
  | none => rfl
  | some n => exact natOf_bytesOf_two (by simp [hl] at hlim; omega)

theorem laneOf_ofNat (l : LaneId) : laneOf (BitVec.ofNat 8 l.val) = some l := by revert l; decide

/-- A legal SUBMIT is in the ranges that its reader checks (R34). -/
theorem submitLegal_of_legal {a : SubmitArgs} (h : a.Legal) :
    submitLegal (submitFlags a) (natOf (limitField a)) a.payload.length = true := by
  obtain ⟨-, -, h2, -, h4, h5⟩ :=
    fiveFlags_bits a.urgent a.batchEnd a.replyWanted a.releaseTime.isSome a.replyLimit.isSome
  rw [natOf_limitField h]
  obtain ⟨hw, hlim, hlen⟩ := h
  have hd : (!a.replyLimit.isSome || a.replyWanted && decide (a.replyLimit.getD 0 ≤ 512)) = true := by
    cases hs : a.replyLimit.isSome
    · rfl
    · simpa [hw hs] using hlim
  rw [submitLegal, submitFlags, h2, h4, h5, hd]
  simpa using hlen

/-- The reply limit of a SUBMIT reads back. -/
theorem limitField_read {a : SubmitArgs} (h : a.Legal) :
    (if a.replyLimit.isSome then some (natOf (limitField a)) else none) = a.replyLimit := by
  rw [natOf_limitField h]
  cases a.replyLimit <;> rfl

/-- Settles O33: the flags place every field where its reader looks for it, and each field reads back. -/
theorem everySubmitBodyIsReadBack : Obligations.EverySubmitBodyIsReadBack := by
  intro a h
  obtain ⟨h0, h1, h2, h3, h4, -⟩ :=
    fiveFlags_bits a.urgent a.batchEnd a.replyWanted a.releaseTime.isSome a.replyLimit.isSome
  have hlen : a.payload.length = natOf (bytesOf 2 a.payload.length) := by
    obtain ⟨-, -, hle⟩ := h
    exact (natOf_bytesOf_two (by omega)).symm
  rw [submitBody_eq]
  simp only [submitArgs, submitFields_payload, submitFields_time, submitFields_limit]
  simp only [bytesOf, List.cons_append, List.nil_append] at hlen ⊢
  rw [if_pos hlen, laneOf_ofNat]
  simp only [argument, submitLegal_of_legal h, if_true]
  simp only [submitFlags, h0, h1, h2, h3, h4, timeField_read, limitField_read h]

/-! ### The ticket search (R25) -/

/-- The counter's successor as a number: 65535 is followed by 1. -/
theorem nextTicket_eq {t : Nat} (h1 : 1 ≤ t) (h2 : t ≤ 65535) : @Eq Nat (nextTicket t) (t % 65535 + 1) := by
  change (if t < 65535 then t + 1 else 1) = t % 65535 + 1
  split <;> omega

/-- The candidates are the counter's value and its successors, 65535 followed by 1. -/
theorem ticketCandidates_eq (n : Nat) {t : Nat} (h1 : 1 ≤ t) (h2 : t ≤ 65535) :
    ticketCandidates n t = (List.range n).map fun k => (t - 1 + k) % 65535 + 1 := by
  induction n generalizing t with
  | zero => rfl
  | succ n ih =>
    have hs : ∀ k, (t % 65535 + 1 - 1 + k) % 65535 + 1 = (t - 1 + (k + 1)) % 65535 + 1 := by omega
    have h0 : (t - 1 + 0) % 65535 + 1 = t := by omega
    rw [ticketCandidates, nextTicket_eq h1 h2, ih (by omega) (by omega), List.range_succ_eq_map]
    simp only [List.map_cons, List.map_map, Function.comp_def, hs, h0, Nat.succ_eq_add_one]

/-- The first 128 candidates differ from each other. -/
theorem candidates_nodup (c : Nat) : ((List.range 128).map fun k => (c + k) % 65535 + 1).Nodup := by
  refine List.Nodup.map_on ?_ List.nodup_range
  intro i hi j hj h
  rw [List.mem_range] at hi hj
  omega

/-- Fewer live records than candidates: one candidate is not live. -/
theorem exists_free_candidate {rs : List Record} (c : Nat) (h : rs.length < 128) :
    ∃ k < 128, ∀ r ∈ rs, r.ticket ≠ (c + k) % 65535 + 1 := by
  by_contra hall
  push Not at hall
  have hsub : (List.range 128).map (fun k => (c + k) % 65535 + 1) ⊆ rs.map Record.ticket := by
    intro t ht
    obtain ⟨k, hk, rfl⟩ := List.mem_map.1 ht
    exact List.mem_map.2 (hall k (List.mem_range.1 hk))
  have hle := ((candidates_nodup c).subperm hsub).length_le
  simp only [List.length_map, List.length_range] at hle
  omega

/-- A search along a range stops at the first place that passes. -/
theorem find?_map_range_of_first {α : Type} {f : Nat → α} {p : α → Bool} {n k : Nat} (hk : k < n) (hp : p (f k) = true)
    (hmin : ∀ j < k, p (f j) = false) : ((List.range n).map f).find? p = some (f k) := by
  have hr : (List.range n).find? (p ∘ f) = some k :=
    List.find?_range_eq_some.2 ⟨hp, List.mem_range.2 hk, fun j hj => by simpa using hmin j hj⟩
  rw [List.find?_map, hr]
  rfl

/-- Settles O36: the first free candidate exists by counting, and the search finds it. -/
theorem ticketIssuedIsTheNextFreeOne : Obligations.TicketIssuedIsTheNextFreeOne := by
  intro m hlen h1 h2
  have hfree := exists_free_candidate (m.counter - 1) hlen
  obtain ⟨hk, hnone⟩ := Nat.find_spec hfree
  have hlive : ∀ j < Nat.find hfree, ∃ r ∈ m.records, r.ticket = (m.counter - 1 + j) % 65535 + 1 := by
    intro j hj
    have := Nat.find_min hfree hj
    push Not at this
    exact this (hj.trans hk)
  refine ⟨Nat.find hfree, _, hk, ?_, rfl, hnone, hlive⟩
  rw [MessageTable.issue, ticketCandidates_eq _ h1 h2]
  refine find?_map_range_of_first hk ?_ fun j hj => ?_
  · simpa using hnone
  · simpa using hlive j hj

/-! ### SUBMIT refused for want of resources (R33, R5) -/

/-- The protected sum counts the waiting lanes whose need fits under their cap (R5, R8). -/
theorem protectedSum_eq (s : State) :
    s.protectedSum = ((s.pool.waiting.filter fun e =>
      decide (s.held e.lane + e.need ≤ (s.lane e.lane).config.cap)).map WaitEntry.need).sum := by
  have hb : ∀ e : WaitEntry, (!s.capBlocked e) = decide (s.held e.lane + e.need ≤ (s.lane e.lane).config.cap) := fun e => by
    simp only [State.capBlocked, ← decide_not, not_lt]
  simp only [State.protectedSum, hb]

/-- What SUBMIT checks after it has read its body, in the order of R33. -/
theorem runSubmit_of_legal (s : State) {a : SubmitArgs} (h : a.Legal) :
    runSubmit (submitBody a) s =
      if 128 ≤ s.table.records.length then (refuseSubmit .tableFull, s)
      else if (s.lane a.lane).config.cap < s.held a.lane + blockCount a.payload.length then (refuseSubmit .laneCap, s)
      else if s.freeCount < s.protectedSum + blockCount a.payload.length then (refuseSubmit .poolFull, s)
      else match s.table.issue with
        | none => (refuseSubmit .tableFull, s)
        | some t => (.ok (bytesOf 2 t), (s.createRecord a t).enqueue a t) := by
  simp only [runSubmit, everySubmitBodyIsReadBack a h, Config.maxRecords]
  rfl

/-- A refused SUBMIT answers its status and ticket 0 and changes nothing else. -/
theorem exec_submit_of_refused {s : State} {tag : Byte} {a : SubmitArgs} {rest : List Request} {st : Status}
    (h : Taken s ⟨tag, submitBody a⟩ rest)
    (hrun : runSubmit (submitBody a) (s.taken rest) = (refuseSubmit st, s.taken rest)) :
    exec .submit s = .next (s.answered rest tag [0x20, st.code, 0, 0]) := by
  rw [submitBody_eq] at h hrun
  exact exec_submit_of_run h hrun

/-- Settles O34: each check is reached once the ones before it have passed. -/
theorem submitIsRefusedInOrder : Obligations.SubmitIsRefusedInOrder := by
  intro s tag a rest h ha need
  have hrun := runSubmit_of_legal (s.taken rest) ha
  have hneed : blockCount a.payload.length = need := rfl
  simp only [taken_table, lane_taken, held_taken, freeCount_taken, protectedSum_taken, hneed] at hrun
  refine ⟨fun hfull => ?_, fun hroom => ⟨fun hcap => ?_, fun hcap hpool => ?_⟩⟩
  · rw [if_pos hfull] at hrun
    exact exec_submit_of_refused h hrun
  · rw [if_neg (by omega), if_pos hcap] at hrun
    exact exec_submit_of_refused h hrun
  · rw [if_neg (by omega), if_neg (by omega), if_pos (by rw [protectedSum_eq]; omega)] at hrun
    exact exec_submit_of_refused h hrun

/-! ### QUERY (R40, R191, R192) -/

theorem attributesByte_eq (r : Record) :
    attributesByte r = BitVec.ofNat 8 (r.urgent.toNat + 2 * r.batchEnd.toNat + 4 * r.replyWanted.toNat +
      8 * r.uncertain.toNat + 16 * r.cancelMark.toNat) := by
  have key : ∀ a b c d e : Bool, flagBit 0 a ||| flagBit 1 b ||| flagBit 2 c ||| flagBit 3 d ||| flagBit 4 e =
      BitVec.ofNat 8 (a.toNat + 2 * b.toNat + 4 * c.toNat + 8 * d.toNat + 16 * e.toNat) := by decide
  exact key _ _ _ _ _

theorem presenceByte_eq (r : Record) (position : Option Nat) :
    presenceByte r position = BitVec.ofNat 8 (r.replyLimit.isSome.toNat + 2 * r.releaseTime.isSome.toNat +
      4 * r.cause.isSome.toNat + 8 * r.rejectCode.isSome.toNat + 16 * r.completionTime.isSome.toNat +
      32 * position.isSome.toNat) := by
  have key : ∀ a b c d e f : Bool,
      flagBit 0 a ||| flagBit 1 b ||| flagBit 2 c ||| flagBit 3 d ||| flagBit 4 e ||| flagBit 5 f =
        BitVec.ofNat 8 (a.toNat + 2 * b.toNat + 4 * c.toNat + 8 * d.toNat + 16 * e.toNat + 32 * f.toNat) := by decide
  exact key _ _ _ _ _ _

/-- Only a QUEUED record has a queue position. -/
theorem queuePosition_isSome (s : State) (r : Record) : (s.queuePosition r).isSome = decide (r.state = .queued) := by
  unfold State.queuePosition; split <;> simp_all

/-- The position byte: 0 where there is no position. -/
theorem queuePosition_byte (s : State) (r : Record) :
    bytesOf 1 ((s.queuePosition r).getD 0) =
      [if decide (r.state = .queued) then BitVec.ofNat 8 ((s.lane r.lane).queue.idxOf r.ticket + 1) else 0] := by
  unfold State.queuePosition
  by_cases h : r.state = .queued <;> simp [h, bytesOf_one]

/-- A part time, 0 where it is absent. -/
theorem time_getD (t : Option PartTime) : (t.map BitVec.toNat).getD 0 = (t.getD 0).toNat := by cases t <;> rfl

theorem code_getD (c : Option Cause) : (c.map Cause.code).getD 0 = c.elim 0 Cause.code := by cases c <;> rfl

/-- What QUERY does with a live record: it reports it. -/
theorem runQuery_of_record {s : State} {hi lo : Byte} {r : Record} (h0 : hi.toNat * 256 + lo.toNat ≠ 0)
    (hr : s.record? (hi.toNat * 256 + lo.toNat) = some r) : runQuery [0x22, hi, lo] s = (.ok (s.queryContent r), s) := by
  simp [runQuery, ticketArgs_of_ne h0, hr]

/-- Settles O39: the reported bytes, field by field. -/
theorem queryReportsTheRecord : Obligations.QueryReportsTheRecord := by
  intro s tag hi lo rest h t
  refine ⟨fun h0 => ?_, fun h0 hnone => ?_, fun r h0 hr => ⟨by simp, ?_⟩⟩
  · exact exec_query_of_run (r := .refuse .badArgument) h (by simp [runQuery, ticketArgs_of_zero h0])
  · exact exec_query_of_run (r := .refuse .noSuchTicket) h (by simp [runQuery, ticketArgs_of_ne h0, t, hnone])
  · have ht : r.ticket = t := (record?_some hr).2
    rw [exec_query_of_run h (runQuery_of_record h0 hr), queryContent_taken]
    simp only [State.answered, State.queryContent, Reply.ok, attributesByte_eq, presenceByte_eq, queuePosition_isSome,
      queuePosition_byte, time_getD, code_getD, ht]
    simp [t, bytesOf_two_pair, bytesOf_one, Status.code]

/-! ### REPLY_READ (R41) -/

/-- The bytes read: as many as are asked for and left, each at its place behind the offset. -/
theorem readBytes_spec {r : Record} (h : r.reply.length = r.replyLength) (offset count : Nat) :
    (readBytes r offset count).length = min count (r.replyLength - offset) ∧
      ∀ i < min count (r.replyLength - offset), (readBytes r offset count)[i]? = r.reply[offset + i]? := by
  have hb : readBytes r offset count = (r.reply.drop offset).take count := by
    rw [readBytes, List.take_of_length_le h.le]
  rw [hb]
  refine ⟨by simp [h], fun i hi => ?_⟩
  rw [List.getElem?_take_of_lt (by omega), List.getElem?_drop]

/-- The ticket and the count in their ranges (R41, R190). -/
theorem replyReadArgs_eq (t1 t0 o1 o0 c1 c0 : Byte) :
    replyReadArgs [0x23, t1, t0, o1, o0, c1, c0] =
      if t1.toNat * 256 + t0.toNat ≠ 0 ∧ 1 ≤ c1.toNat * 256 + c0.toNat ∧ c1.toNat * 256 + c0.toNat ≤ 256 then
        .ok ⟨t1.toNat * 256 + t0.toNat, o1.toNat * 256 + o0.toNat, c1.toNat * 256 + c0.toNat⟩
      else .error .badArgument := by
  simp only [replyReadArgs, argument, natOf_pair, Config.maxReadCount, Bool.and_eq_true, bne_iff_ne, decide_eq_true_eq,
    and_assoc]

/-- Settles O40, along the branches of REPLY_READ. -/
theorem replyReadReturnsTheReplyBytes : Obligations.ReplyReadReturnsTheReplyBytes := by
  intro s tag t1 t0 o1 o0 c1 c0 rest h t offset count
  have hargs := replyReadArgs_eq t1 t0 o1 o0 c1 c0
  refine ⟨fun hbad => ?_, fun h0 h1 h256 => ?_⟩
  · rw [if_neg (by omega)] at hargs
    exact exec_replyRead_of_run (r := .refuse .badArgument) h (by simp only [runReplyRead, hargs])
  replace hargs : _ = Except.ok (ReplyReadArgs.mk t offset count) := hargs.trans (if_pos ⟨h0, h1, h256⟩)
  refine ⟨fun hnone => ?_, fun r hr => ⟨fun hno => ?_, fun hdone hw => ⟨fun hpast => ?_, fun hin hlen => ?_⟩⟩⟩
  · exact exec_replyRead_of_run (r := .refuse .noSuchTicket) h (by simp only [runReplyRead, hargs, record?_taken, hnone])
  · have hno' : ¬(r.state = .done ∧ r.replyWanted = true) := by rintro ⟨h1, h2⟩; simp [h1, h2] at hno
    exact exec_replyRead_of_run (r := .refuse .noReply) h (by simp only [runReplyRead, hargs, record?_taken, hr, if_neg hno'])
  · exact exec_replyRead_of_run (r := .refuse .range) h
      (by simp only [runReplyRead, hargs, record?_taken, hr, if_pos (And.intro hdone hw), if_neg (Nat.not_le.2 hpast)])
  · obtain ⟨hl, hb⟩ := readBytes_spec hlen offset count
    refine ⟨readBytes r offset count, hl, hb, ?_⟩
    rw [← hl]
    exact exec_replyRead_of_run (r := .ok (bytesOf 2 (readBytes r offset count).length ++ readBytes r offset count)) h
      (by simp only [runReplyRead, hargs, record?_taken, hr, if_pos (And.intro hdone hw), if_pos hin])

/-! ### COLLECT (R42) -/

theorem laneOf_of_lt {b : Byte} (h : b.toNat < 8) : laneOf b = some ⟨b.toNat, h⟩ := dif_pos h

theorem laneOf_of_ge {b : Byte} (h : 8 ≤ b.toNat) : laneOf b = none := dif_neg (Nat.not_lt.2 h)

theorem eq_allLanes_iff (b : Byte) : b = 0xFF#8 ↔ b.toNat = 255 := by
  rw [← BitVec.toNat_inj]
  rfl

/-- The whole part, a lane of it, and everything out of range (R190). -/
theorem collectArgs_of_illegal {filter maximum : Byte}
    (h : (8 ≤ filter.toNat ∧ filter.toNat ≠ 255) ∨ maximum.toNat = 0 ∨ 64 < maximum.toNat) :
    collectArgs [0x24, filter, maximum] = .error .badArgument := by
  simp only [collectArgs, Config.maxCollect, eq_allLanes_iff]
  by_cases hm : 1 ≤ maximum.toNat ∧ maximum.toNat ≤ 64
  · obtain ⟨h8, h255⟩ := h.resolve_right (by omega)
    rw [if_pos hm, if_neg h255, laneOf_of_ge h8]
  · rw [if_neg hm]

/-- A legal COLLECT names a filter that the entries pass exactly when the filter byte is FFh or their lane. -/
theorem collectArgs_of_legal {filter maximum : Byte} (hf : filter.toNat < 8 ∨ filter.toNat = 255)
    (h1 : 1 ≤ maximum.toNat) (h64 : maximum.toNat ≤ 64) :
    ∃ f : Option LaneId, collectArgs [0x24, filter, maximum] = .ok (f, maximum.toNat) ∧
      ∀ r : Record, f.all (fun l => r.lane == l) = (filter.toNat = 255 || r.lane.val = filter.toNat : Bool) := by
  simp only [collectArgs, Config.maxCollect, eq_allLanes_iff, if_pos (And.intro h1 h64)]
  by_cases h255 : filter.toNat = 255
  · exact ⟨none, if_pos h255, fun r => by simp [h255]⟩
  · have h8 : filter.toNat < 8 := hf.resolve_right h255
    refine ⟨some ⟨filter.toNat, h8⟩, by rw [if_neg h255, laneOf_of_lt h8], fun r => ?_⟩
    rw [Option.all_some, decide_eq_false h255, Bool.false_or]
    exact decide_eq_decide.2 Fin.ext_iff

/-- Where every entry of the completion list has a record, the entries that match are those records in order. -/
theorem collectMatches_eq {s : State} {listed : List Record}
    (h : listed.map (fun r => some r) = s.table.completion.map s.record?) (f : Option LaneId) :
    s.collectMatches f = listed.filter fun r => f.all fun l => r.lane == l := by
  have hl : s.table.completion.filterMap s.record? = listed := by
    calc s.table.completion.filterMap s.record?
        = (s.table.completion.map s.record?).filterMap id := by rw [List.filterMap_map]; rfl
      _ = (listed.map fun r => some r).filterMap id := by rw [h]
      _ = listed := by rw [List.filterMap_map]; exact List.filterMap_some
  rw [State.collectMatches, hl]

/-- Settles O41: the filter's records, cut at the maximum, are the oldest `n` of them. -/
theorem collectListsTheOldestOutcomes : Obligations.CollectListsTheOldestOutcomes := by
  intro s tag filter maximum rest h
  refine ⟨fun hbad => ?_, fun hf h1 h64 listed hlisted => ?_⟩
  · exact exec_collect_of_run (r := .refuse .badArgument) h (by simp only [runCollect, collectArgs_of_illegal hbad])
  · intro found n
    obtain ⟨f, hargs, hfilter⟩ := collectArgs_of_legal hf h1 h64
    have hfound : s.collectMatches f = found := by
      rw [collectMatches_eq hlisted]
      exact congrArg (fun p => listed.filter p) (funext hfilter)
    have hshown : found.take maximum.toNat = found.take n := by
      rw [← List.take_take, List.take_of_length_le (List.length_take_le' _ _)]
    have hcontent : s.collectContent f maximum.toNat = [BitVec.ofNat 8 found.length, BitVec.ofNat 8 n] ++
        (found.take n).flatMap fun r => bytesOf 2 r.ticket ++ [r.state.code] := by
      have hn : (found.take n).length = n := by simp [n]
      simp only [State.collectContent, hfound, hshown, hn, bytesOf_one, List.cons_append, List.nil_append]
    have hrun : runCollect [0x24, filter, maximum] (s.taken rest) =
        (.ok (s.collectContent f maximum.toNat), s.taken rest) := by
      simp only [runCollect, hargs, collectContent_taken]
    rw [exec_collect_of_run h hrun, hcontent]
    rfl

/-! ### RETIRE (R43, R18) -/

theorem terminal_iff (st : RecordState) :
    st.terminal = true ↔ st = .done ∨ st = .failed ∨ st = .cancelled := by cases st <;> decide

theorem not_terminal_iff (st : RecordState) : st.terminal = false ↔ st = .queued ∨ st = .active := by
  cases st <;> decide

/-- A record without blocks has no chains. -/
theorem blocks_eq_zero_iff (r : Record) : r.blocks = 0 ↔ r.payloadChain ++ r.replyChain = [] := by
  simp [Record.blocks]

/-- What RETIRE does with a terminal record: it removes it (R43). -/
theorem runRetire_of_terminal {s : State} {hi lo : Byte} {r : Record} (h0 : hi.toNat * 256 + lo.toNat ≠ 0)
    (hr : s.record? (hi.toNat * 256 + lo.toNat) = some r) (ht : r.state.terminal = true) :
    runRetire [0x25, hi, lo] s = (.ok [], s.retireRecord r) := by
  simp [runRetire, ticketArgs_of_ne h0, hr, ht]

/-- Settles O42, along the branches of RETIRE. -/
theorem retireRemovesATerminalRecord : Obligations.RetireRemovesATerminalRecord := by
  intro s tag hi lo rest h t
  refine ⟨fun h0 => ?_, fun h0 hnone => ?_, fun r h0 hr => ⟨fun hlive => ?_, fun hend => ?_⟩⟩
  · exact exec_retire_of_run (r := .refuse .badArgument) h (by simp only [runRetire, ticketArgs_of_zero h0])
  · exact exec_retire_of_run (r := .refuse .noSuchTicket) h
      (by simp only [runRetire, ticketArgs_of_ne h0, record?_taken, t, hnone])
  · have hst := (not_terminal_iff _).2 hlive
    exact exec_retire_of_run (r := .refuse .notFinished) h
      (by simp only [runRetire, ticketArgs_of_ne h0, record?_taken, t, hr, hst]; rfl)
  · intro chains out
    have hrun := runRetire_of_terminal (s := s.taken rest) h0 hr ((terminal_iff _).2 hend)
    have hout : (s.taken rest).retireRecord r = if r.blocks = 0 then out else out.grantScan := by
      simp only [State.retireRecord, (record?_some hr).2]
      rfl
    rw [exec_retire_of_run h hrun, hout]
    exact ⟨fun hnil => by rw [if_pos ((blocks_eq_zero_iff r).2 hnil)]; rfl,
      fun hne => by rw [if_neg (mt (blocks_eq_zero_iff r).1 hne)]; rfl⟩

/-! ### CANCEL of an ACTIVE record (R38, R88) -/

theorem runCancel_of_active {s : State} {hi lo : Byte} {r : Record} (h0 : hi.toNat * 256 + lo.toNat ≠ 0)
    (hr : s.record? (hi.toNat * 256 + lo.toNat) = some r) (hst : r.state = .active) :
    runCancel [0x21, hi, lo] s = (.ok [CancelResult.marked.code], s.markActive r) := by
  simp only [runCancel, ticketArgs_of_ne h0, hr, hst]

/-- Between attempts the marked record ends at once, in an attempt it goes on. -/
theorem markActive_cases {s : State} {t : Ticket} {r : Record} (hr : s.record? t = some r) :
    ((s.lane r.lane).phase = .waitSlot ∨ (s.lane r.lane).phase = .backoff) ∧
      s.markActive r = (s.onRecord t fun x => { x with cancelMark := true }).cancelledBy r.lane t r r.uncertain ∨
    (s.lane r.lane).phase ≠ .waitSlot ∧ (s.lane r.lane).phase ≠ .backoff ∧
      s.markActive r = s.onRecord t fun x => { x with cancelMark := true } := by
  have hmarked := record?_onRecord_self hr (fun x => { x with cancelMark := true }) fun _ => rfl
  have hend : (s.onRecord t fun x => { x with cancelMark := true }).cancelActive r.lane t r.uncertain =
      (s.onRecord t fun x => { x with cancelMark := true }).cancelledBy r.lane t r r.uncertain :=
    cancelActive_eq hmarked r.uncertain
  unfold State.markActive
  rw [(record?_some hr).2]
  cases (s.lane r.lane).phase <;> simp [hend]

/-- Settles O38, with the end of an ACTIVE record by its mark from `cancelActive_eq`. -/
theorem cancelMarksAnActiveRecord : Obligations.CancelMarksAnActiveRecord := by
  intro s tag hi lo rest h h0 t
  refine ⟨fun hnone => ?_, fun r hr => ⟨fun hend => ?_, fun hact => ?_⟩⟩
  · exact exec_cancel_of_run (r := .refuse .noSuchTicket) h
      (by simp only [runCancel, ticketArgs_of_ne h0, record?_taken, t, hnone])
  · have hrun : runCancel [0x21, hi, lo] (s.taken rest) = (.ok [CancelResult.tooLate.code], s.taken rest) := by
      simp only [runCancel, ticketArgs_of_ne h0, record?_taken, hr, t]
      rcases hend with hst | hst | hst <;> rw [hst]
    exact exec_cancel_of_run h hrun
  · intro x marked
    rw [exec_cancel_of_run h (runCancel_of_active h0 hr hact)]
    rcases markActive_cases (s := s.taken rest) hr with ⟨hbetween, hm⟩ | ⟨hslot, hback, hm⟩
    · refine ⟨fun h1 h2 => absurd hbetween (not_or.2 ⟨h1, h2⟩), fun _ => ?_⟩
      intro done rested
      have hrest : (s.taken rest).markActive r = rested.comesToRest r.lane t := hm
      have hmode : (rested.lane r.lane).mode = (done.lane r.lane).mode := by rw [lane_withLane_self]
      rw [hrest, State.comesToRest, hmode]
      exact ⟨fun hne => by rw [if_neg hne]; rfl, fun he => by rw [if_pos he]; rfl⟩
    · exact ⟨fun _ _ => by rw [hm]; rfl, fun hbetween => absurd hbetween (not_or.2 ⟨hslot, hback⟩)⟩

/-! ### What a grant scan does to one lane (R11, R12) -/

/-- A grant gives its lane an active record in WAIT_SLOT and leaves every other lane. -/
theorem lane_grant (s : State) (e : WaitEntry) (l : LaneId) :
    (s.grant e).lane l = s.lane l ∨
      e.lane = l ∧ ((s.grant e).lane l).mode = (s.lane l).mode ∧ ((s.grant e).lane l).phase = .waitSlot := by
  unfold State.grant
  cases s.head? e.lane with
  | none => exact .inl rfl
  | some r =>
    by_cases hl : e.lane = l
    · subst hl
      exact .inr ⟨rfl, by simp [State.activate, State.reserve, State.removeWaiting, State.dropFree],
        by simp [State.activate, State.reserve, State.removeWaiting, State.dropFree]⟩
    · refine .inl ?_
      simp [State.activate, lane_onLane_of_ne _ _ hl, State.reserve, State.removeWaiting, State.dropFree]

/-- A scan leaves a lane as it is or grants its entry. -/
theorem lane_scanFrom (s : State) (es : List WaitEntry) (l : LaneId) :
    (s.scanFrom es).lane l = s.lane l ∨
      (∃ e ∈ es, e.lane = l) ∧ ((s.scanFrom es).lane l).mode = (s.lane l).mode ∧
        ((s.scanFrom es).lane l).phase = .waitSlot := by
  induction es generalizing s with
  | nil => exact .inl rfl
  | cons e es ih =>
    have more : (∃ a ∈ es, a.lane = l) → ∃ a ∈ e :: es, a.lane = l := fun ⟨a, ha, hl⟩ => ⟨a, .tail _ ha, hl⟩
    rcases scanFrom_cons_cases s e es with ⟨-, hs⟩ | ⟨-, -, hs⟩ | ⟨-, -, hs⟩
    · rw [hs]
      exact (ih s).imp_right fun ⟨hex, hrest⟩ => ⟨more hex, hrest⟩
    · rw [hs]
      rcases ih (s.grant e) with hi | ⟨hex, hmode, hphase⟩ <;> rcases lane_grant s e l with hg | ⟨hel, hgm, hgp⟩
      · exact .inl (hi.trans hg)
      · exact .inr ⟨⟨e, .head _, hel⟩, by rw [hi, hgm], by rw [hi, hgp]⟩
      · exact .inr ⟨more hex, by rw [hmode, hg], hphase⟩
      · exact .inr ⟨more hex, by rw [hmode, hgm], hphase⟩
    · exact .inl (by rw [hs])

/-- The grant scan leaves the mode of every lane. -/
theorem mode_grantScan (s : State) (l : LaneId) : (s.grantScan.lane l).mode = (s.lane l).mode := by
  rcases lane_scanFrom s s.pool.waiting l with h | ⟨-, h, -⟩
  · exact congrArg Lane.mode h
  · exact h

/-- The grant scan leaves the phase of a lane or takes it to WAIT_SLOT. -/
theorem phase_grantScan (s : State) (l : LaneId) :
    (s.grantScan.lane l).phase = (s.lane l).phase ∨ (s.grantScan.lane l).phase = .waitSlot := by
  rcases lane_scanFrom s s.pool.waiting l with h | ⟨-, -, h⟩
  · exact .inl (congrArg Lane.phase h)
  · exact .inr h

/-- The grant scan leaves a lane that has no entry. -/
theorem lane_grantScan_of_not_waiting {s : State} {l : LaneId} (h : s.isWaiting l = false) :
    s.grantScan.lane l = s.lane l := by
  refine (lane_scanFrom s s.pool.waiting l).resolve_right ?_
  rintro ⟨⟨e, he, hl⟩, -⟩
  simp only [State.isWaiting, List.any_eq_false, beq_iff_eq] at h
  exact h e he hl

/-! ### CANCEL of a QUEUED record (R37, R51) -/

/-- `s` after its QUEUED record `r` has ended by CANCEL and left its queue, before any scan (R16, R29, R37, R49). -/
def cancelledInQueue (s : State) (r : Record) : State :=
  (s.ended r.ticket (r.payloadChain ++ r.replyChain) (Record.finish .cancelled .byHost none s.time)).withLane r.lane
    { s.lane r.lane with queue := (s.lane r.lane).queue.erase r.ticket }

theorem lane_cancelledInQueue (s : State) (r : Record) :
    (cancelledInQueue s r).lane r.lane = { s.lane r.lane with queue := (s.lane r.lane).queue.erase r.ticket } :=
  lane_withLane_self _ _ _

theorem isWaiting_cancelledInQueue (s : State) (r : Record) (l : LaneId) :
    (cancelledInQueue s r).isWaiting l = s.isWaiting l := rfl

/-- The cancelled head of a waiting lane is one change; any other record's end is scanned before a re-evaluation
(log 11). -/
theorem cancelQueued_eq {s : State} {r : Record} (hr : s.record? r.ticket = some r) :
    s.cancelQueued r =
      if (s.lane r.lane).queue.head? = some r.ticket then
        if (s.lane r.lane).phase = .waitSpace then (cancelledInQueue s r).headChanged r.lane
        else (cancelledInQueue s r).grantScan.headChanged r.lane
      else (cancelledInQueue s r).grantScan := by
  simp only [State.cancelQueued, endRecord_eq_ended hr]
  rfl

/-- A lane that ignores a head change: not in PASS, or neither idle nor waiting (R51). -/
def headDeaf (x : Lane) : Prop :=
  x.mode ≠ .pass ∨ (x.phase ≠ .idle ∧ x.phase ≠ .waitTime ∧ x.phase ≠ .waitSpace)

theorem headChanged_of_deaf {s : State} {l : LaneId} (h : headDeaf (s.lane l)) : s.headChanged l = s := by
  rcases headChanged_cases s l with ⟨hmode, hphase, -⟩ | ⟨hmode, hphase, -⟩ | ⟨-, hsame⟩
  · obtain ⟨hi, ht, -⟩ := h.resolve_left (not_not.2 hmode)
    exact (hphase.elim hi ht).elim
  · obtain ⟨-, -, hs⟩ := h.resolve_left (not_not.2 hmode)
    exact absurd hphase hs
  · exact hsame

/-- A scan does not make such a lane listen: its mode stands, and WAIT_SLOT is the only phase it may enter. -/
theorem headDeaf_grantScan {s : State} {l : LaneId} (h : headDeaf (s.lane l)) : headDeaf (s.grantScan.lane l) := by
  unfold headDeaf at h ⊢
  rw [mode_grantScan]
  refine h.imp_right fun hphase => ?_
  rcases phase_grantScan s l with hp | hp <;> rw [hp]
  · exact hphase
  · decide

theorem runCancel_of_queued {s : State} {hi lo : Byte} {r : Record} (h0 : hi.toNat * 256 + lo.toNat ≠ 0)
    (hr : s.record? (hi.toNat * 256 + lo.toNat) = some r) (hst : r.state = .queued) :
    runCancel [0x21, hi, lo] s = (.ok [CancelResult.cancelled.code], s.cancelQueued r) := by
  simp only [runCancel, ticketArgs_of_ne h0, hr, hst]

/-- Settles O37: the record ends and leaves its queue, and the branches of R51 follow. -/
theorem cancelEndsAQueuedRecord : Obligations.CancelEndsAQueuedRecord := by
  intro s tag hi lo r rest h h0 hr hst x gone ok
  have hgone : cancelledInQueue (s.taken rest) r = gone := rfl
  have hlane : gone.lane r.lane = { x with queue := x.queue.erase r.ticket } := lane_cancelledInQueue _ _
  have hr' : (s.taken rest).record? r.ticket = some r := by rw [(record?_some hr).2]; exact hr
  have hx : (s.taken rest).lane r.lane = x := rfl
  rw [exec_cancel_of_run h (runCancel_of_queued h0 hr hst), cancelQueued_eq hr', hgone, hx]
  refine ⟨fun hdeaf hscan => ?_, fun hhead hmode hphase => ?_, fun hhead hmode hphase hwait => ?_⟩
  · by_cases hhead : x.queue.head? = some r.ticket
    · have hdeaf' := hdeaf.resolve_left (not_not.2 hhead)
      rw [if_pos hhead, if_neg (hscan.resolve_right (not_not.2 hhead)),
        headChanged_of_deaf (headDeaf_grantScan (by rw [hlane]; exact hdeaf'))]
      rfl
    · rw [if_neg hhead]
      rfl
  · have hnew : gone.headChanged r.lane = gone.updateNeed r.lane := by
      simp only [State.headChanged, hlane, hmode, hphase]
    rw [if_pos hhead, if_pos hphase, hnew]
    rfl
  · have hsame : gone.grantScan.lane r.lane = gone.lane r.lane :=
      lane_grantScan_of_not_waiting ((isWaiting_cancelledInQueue _ r _).trans hwait)
    have hnew : gone.grantScan.headChanged r.lane = gone.grantScan.judgeHead r.lane := by
      simp only [State.headChanged, hsame, hlane, hmode]
      rcases hphase with hphase | hphase <;> rw [hphase]
    have hns : x.phase ≠ .waitSpace := by rcases hphase with hphase | hphase <;> simp [hphase]
    rw [if_pos hhead, if_neg hns, hnew]
    rfl

end Sys2Proof.Proofs.Messages
end

section
/-! PROOFS. Requests that act on a lane's queue: LANE_FLUSH cancels it, LANE_MODE to PASS opens it. -/

namespace Sys2Proof.Proofs.LaneQueues

-- One theorem at a time: each elaboration thread takes 1 GiB of the check's memory limit.
set_option Elab.async false

open Sys2Proof Sys2Proof.Machine Sys2Proof.Proofs.Messages

/-! ### The two requests, once their meaning on the body is known -/

section
variable {s u : State} {tag : Byte} {rest : List Request} {r : Reply} {l : LaneId}

theorem exec_laneFlush_of_run (h : Taken s ⟨tag, [0x13, BitVec.ofNat 8 l.val]⟩ rest)
    (hrun : runLaneFlush [0x13, BitVec.ofNat 8 l.val] (s.taken rest) = (r, u)) :
    exec .laneFlush s = .next (u.appends tag (0x13 :: r.status.code :: r.content)) :=
  congrArg Host.Outcome.next (takeRequest_of_run h rfl hrun)

theorem exec_laneModePass_of_run (h : Taken s ⟨tag, [0x11, BitVec.ofNat 8 l.val, 0x01]⟩ rest)
    (hrun : runLaneModePass [0x11, BitVec.ofNat 8 l.val, 0x01] (s.taken rest) = (r, u)) :
    exec .laneModePass s = .next (u.appends tag (0x11 :: r.status.code :: r.content)) :=
  congrArg Host.Outcome.next (takeRequest_of_run h rfl hrun)

end

/-- A lane field that spells a lane is read as that lane (R190). -/
theorem laneArgument_ofNat (l : LaneId) : laneArgument (BitVec.ofNat 8 l.val) = .ok l := by
  rw [laneArgument, laneOf_ofNat]

/-! ### Lanes replaced -/

/-- A lane replaced by itself is no change. -/
theorem withLane_lane (s : State) (l : LaneId) : s.withLane l (s.lane l) = s := by
  have hset : s.lanes.set l.val (s.lane l) = s.lanes := Vector.set_getElem_self l.isLt
  rw [State.withLane, hset]

/-- Without a queue there is no head (R47). -/
theorem head?_of_nil {s : State} {l : LaneId} (h : (s.lane l).queue = []) : s.head? l = none := by
  rw [State.head?, h]

/-- A lane is busy by an active message or a drop reset (R75). -/
theorem busy_iff (x : Lane) : x.busy = true ↔ x.active.isSome = true ∨ x.phase = .resetting := by
  simp [Lane.busy]

/-! ### Many records that end together (R16, R29, R55) -/

/-- The blocks of the record that a ticket names, payload chain first (log 7). -/
def chainsNamed (s : State) (t : Ticket) : List BlockNo :=
  ((s.record? t).map fun r => r.payloadChain ++ r.replyChain).getD []

/-- A record after the tickets `q` have been flushed at `time` (R29, R55). -/
def flushedRecord (time : PartTime) (q : List Ticket) (r : Record) : Record :=
  if r.ticket ∈ q then Record.finish .cancelled .flushed none time r else r

/-- `s` after the records of the tickets `q` have become CANCELLED/FLUSHED, in order. -/
def flushed (s : State) (q : List Ticket) : State :=
  { s with
    pool := { s.pool with free := s.pool.free ++ q.flatMap (chainsNamed s) }
    table := { s.table with records := s.table.records.map (flushedRecord s.time q)
                            completion := s.table.completion ++ q } }

theorem flushed_nil (s : State) : flushed s [] = s := by
  have hid : flushedRecord s.time [] = id := funext fun _ => if_neg List.not_mem_nil
  simp [flushed, hid]

/-- `s` after the one record `r`, ticket `t`, has become CANCELLED/FLUSHED. -/
def flushedOne (s : State) (t : Ticket) (r : Record) : State :=
  s.ended t (r.payloadChain ++ r.replyChain) (Record.finish .cancelled .flushed none s.time)

/-- The end of one record leaves every other record as it is. -/
theorem record?_ended_of_ne {s : State} {t u : Ticket} (hne : u ≠ t) (back : List BlockNo) {f : Record → Record}
    (hf : ∀ r, (f r).ticket = r.ticket) : (s.ended t back f).record? u = s.record? u := by
  have hticket : ((fun r : Record => r.ticket == u) ∘ fun r => if r.ticket = t then f r else r) = (·.ticket == u) := by
    funext r
    simp only [Function.comp_apply]
    split <;> simp only [hf]
  have hmap : (s.ended t back f).record? u = (s.record? u).map fun r => if r.ticket = t then f r else r := by
    rw [State.record?, State.ended, List.find?_map, hticket]
    rfl
  rw [hmap]
  cases hu : s.record? u with
  | none => rfl
  | some r =>
    have hr : r.ticket ≠ t := by rw [(record?_some hu).2]; exact hne
    exact congrArg some (if_neg hr)

theorem record?_flushedOne_of_ne {s : State} {t u : Ticket} (hne : u ≠ t) (r : Record) :
    (flushedOne s t r).record? u = s.record? u :=
  record?_ended_of_ne hne _ fun _ => rfl

/-- Flushing the record of `t` and then those of `q` rewrites each record once. -/
theorem flushedRecord_cons {t : Ticket} {q : List Ticket} (ht : t ∉ q) (time : PartTime) (r : Record) :
    flushedRecord time q (if r.ticket = t then Record.finish .cancelled .flushed none time r else r) =
      flushedRecord time (t :: q) r := by
  by_cases hr : r.ticket = t
  · have hdone : (Record.finish .cancelled .flushed none time r).ticket ∉ q := by rwa [← hr] at ht
    rw [if_pos hr, flushedRecord, if_neg hdone, flushedRecord, if_pos (List.mem_cons.2 (.inl hr))]
  · simp only [flushedRecord, hr, if_false, List.mem_cons, false_or]

/-- Ending the first record and then the others is ending them all, where no ticket stands twice. -/
theorem flushed_flushedOne {s : State} {t : Ticket} {q : List Ticket} {r : Record} (hr : s.record? t = some r) (ht : t ∉ q) :
    flushed (flushedOne s t r) q = flushed s (t :: q) := by
  have hfirst : chainsNamed s t = r.payloadChain ++ r.replyChain := by rw [chainsNamed, hr]; rfl
  have hothers : q.flatMap (chainsNamed (flushedOne s t r)) = q.flatMap (chainsNamed s) :=
    List.flatMap_congr fun u hu => by
      rw [chainsNamed, record?_flushedOne_of_ne (ne_of_mem_of_not_mem hu ht), chainsNamed]
  have hfree : (flushedOne s t r).pool.free ++ q.flatMap (chainsNamed (flushedOne s t r)) =
      s.pool.free ++ (t :: q).flatMap (chainsNamed s) := by
    rw [hothers, List.flatMap_cons, hfirst, ← List.append_assoc]
    rfl
  have hrecords : (flushedOne s t r).table.records.map (flushedRecord s.time q) =
      s.table.records.map (flushedRecord s.time (t :: q)) := by
    rw [flushedOne, State.ended, List.map_map]
    exact List.map_congr_left fun a _ => flushedRecord_cons ht s.time a
  have hcompletion : (flushedOne s t r).table.completion ++ q = s.table.completion ++ t :: q :=
    (List.append_cons _ _ _).symm
  have htime : (flushedOne s t r).time = s.time := rfl
  rw [flushed, hfree, htime, hrecords, hcompletion]
  rfl

/-- The flush of a list of tickets, each naming a record and none standing twice, as one change (R55). -/
theorem flushAll_eq {s : State} {q : List Ticket} (hq : q.Nodup) (hlive : ∀ t ∈ q, ∃ r, s.record? t = some r) :
    s.flushAll q = flushed s q := by
  induction q generalizing s with
  | nil => exact (flushed_nil s).symm
  | cons t q ih =>
    obtain ⟨ht, hq⟩ := List.nodup_cons.1 hq
    obtain ⟨r, hr⟩ := hlive t (.head _)
    have hrest : ∀ u ∈ q, ∃ a, (flushedOne s t r).record? u = some a := fun u hu => by
      rw [record?_flushedOne_of_ne (ne_of_mem_of_not_mem hu ht)]
      exact hlive u (.tail _ hu)
    calc s.flushAll (t :: q)
        = (s.endRecord t .cancelled .flushed none).flushAll q := rfl
      _ = (flushedOne s t r).flushAll q := by rw [endRecord_eq_ended hr]; rfl
      _ = flushed (flushedOne s t r) q := ih hq hrest
      _ = flushed s (t :: q) := flushed_flushedOne hr ht

/-- Every ticket in a lawful queue names a live record (R47). -/
theorem record?_of_mem_queue {s : State} (h : LaneQueuesLawful s) {l : LaneId} {t : Ticket} (ht : t ∈ (s.lane l).queue) :
    ∃ r, s.record? t = some r := by
  obtain ⟨-, -, hentry, -⟩ := h
  obtain ⟨r, hr, hticket, -⟩ := hentry l t ht
  exact Option.isSome_iff_exists.1 (List.find?_isSome.2 ⟨r, hr, by simpa using hticket⟩)

/-! ### LANE_FLUSH (R55, R56) -/

/-- A lane that stops waiting, field by field: its phase, and its entry in the space waiting list. -/
theorem stopWaiting_eq (s : State) (l : LaneId) :
    s.stopWaiting l =
      { s.withLane l { s.lane l with
          phase := if (s.lane l).phase = .waitTime ∨ (s.lane l).phase = .waitSpace then .idle else (s.lane l).phase } with
        pool := { s.pool with waiting :=
          if (s.lane l).phase = .waitSpace then s.pool.waiting.filter fun e => e.lane != l else s.pool.waiting } } := by
  by_cases htime : (s.lane l).phase = .waitTime
  · simp only [State.stopWaiting, htime]; rfl
  · by_cases hspace : (s.lane l).phase = .waitSpace
    · simp only [State.stopWaiting, hspace]; rfl
    · have hsame : s.stopWaiting l = s := by
        unfold State.stopWaiting
        split <;> [exact absurd ‹_› htime; exact absurd ‹_› hspace; rfl]
      rw [hsame, if_neg (not_or.2 ⟨htime, hspace⟩), if_neg hspace]
      exact (withLane_lane s l).symm

/-- The flush of a lane as one change and one scan (R55, R56). -/
theorem flushLane_eq {s : State} (h : LaneQueuesLawful s) (l : LaneId) :
    s.flushLane l = (((flushed s (s.lane l).queue).withLane l { s.lane l with queue := [] }).stopWaiting l).grantScan := by
  have ⟨hnodup, _⟩ := h
  rw [State.flushLane, flushAll_eq (hnodup l) fun t ht => record?_of_mem_queue h ht]
  rfl

/-- What LANE_FLUSH does on a body that names a lane. -/
theorem runLaneFlush_eq (s : State) (l : LaneId) :
    runLaneFlush [0x13, BitVec.ofNat 8 l.val] s =
      (.ok [BitVec.ofNat 8 (s.lane l).queue.length], if (s.lane l).queue = [] then s else s.flushLane l) := by
  simp only [runLaneFlush, laneArgs, laneArgument_ofNat, bytesOf_one, List.isEmpty_iff]

/-- Settles O30: the records end one after the other as one change, then the lane stops waiting and one scan follows. -/
theorem laneFlushCancelsTheQueue : Obligations.LaneFlushCancelsTheQueue := by
  intro s tag l rest h x
  have hrun := runLaneFlush_eq (s.taken rest) l
  refine ⟨fun hnil => ?_, fun hne _ hlaw => ?_⟩
  · have hq : ((s.taken rest).lane l).queue = [] := hnil
    rw [if_pos hq, hq] at hrun
    exact exec_laneFlush_of_run h hrun
  · have hq : ((s.taken rest).lane l).queue ≠ [] := hne
    have hlaw' : LaneQueuesLawful (s.taken rest) := hlaw
    rw [if_neg hq, flushLane_eq hlaw' l, stopWaiting_eq, lane_withLane_self] at hrun
    rw [exec_laneFlush_of_run h hrun, withLane_withLane]
    rfl

/-! ### LANE_MODE to PASS (R69, R70) -/

/-- A LANE_MODE body with a lane and one of the three targets is read as that lane (R69, R190). -/
theorem laneModeArgs_of_target {target : Byte} (ht : target.toNat ≤ 2) (code : Byte) (l : LaneId) :
    laneModeArgs [code, BitVec.ofNat 8 l.val, target] = .ok l := by
  rw [laneModeArgs, if_pos ht, laneArgument_ofNat]

/-- `x` in PASS with its quota loaded (R58, R70). -/
def passing (x : Lane) : Lane := { x with mode := .pass, quotaLeft := x.config.quota }

section
variable {s : State} {l : LaneId}

theorem runLaneModePass_of_halt (h : (s.lane l).mode = .halt) :
    runLaneModePass [0x11, BitVec.ofNat 8 l.val, 0x01] s = (.refuse .badTransition, s) := by
  simp only [runLaneModePass, laneModeArgs_of_target (target := 0x01) (by decide), h]

theorem runLaneModePass_of_pass (h : (s.lane l).mode = .pass) :
    runLaneModePass [0x11, BitVec.ofNat 8 l.val, 0x01] s = (modeReply .pass 0, s) := by
  simp only [runLaneModePass, laneModeArgs_of_target (target := 0x01) (by decide), h]

/-- From HOLD the quota is loaded, and only a busy lane leaves its head unjudged. -/
theorem runLaneModePass_of_hold (h : (s.lane l).mode = .hold) :
    runLaneModePass [0x11, BitVec.ofNat 8 l.val, 0x01] s =
      (modeReply .pass 0, if (s.lane l).busy then s.withLane l (passing (s.lane l))
        else (s.withLane l (passing (s.lane l))).judgeHead l) := by
  simp only [runLaneModePass, laneModeArgs_of_target (target := 0x01) (by decide), h]
  rfl

end

/-- A lane without a queue that judges its head is in IDLE (R76). -/
theorem judgeHead_withLane_of_nil (s : State) (l : LaneId) {x : Lane} (h : x.queue = []) :
    (s.withLane l x).judgeHead l = s.withLane l { x with phase := .idle } := by
  have hnil : ((s.withLane l x).lane l).queue = [] := by rw [lane_withLane_self, h]
  rw [judgeHead_of_none (head?_of_nil hnil), State.setPhase, onLane_eq_withLane, lane_withLane_self, withLane_withLane]

/-- Settles O27, along the three modes; in HOLD a lane that is not busy judges its head. -/
theorem laneModeToPass : Obligations.LaneModeToPass := by
  intro s tag l rest h ok x
  refine ⟨fun hhalt => ?_, fun hpass => ?_, fun hhold => ?_⟩
  · exact exec_laneModePass_of_run h (runLaneModePass_of_halt (s := s.taken rest) hhalt)
  · exact exec_laneModePass_of_run h (runLaneModePass_of_pass (s := s.taken rest) hpass)
  · have hrun := runLaneModePass_of_hold (s := s.taken rest) hhold
    refine ⟨fun hbusy => ?_, fun hactive hphase => ?_⟩
    · rw [if_pos ((busy_iff ((s.taken rest).lane l)).2 hbusy)] at hrun
      exact exec_laneModePass_of_run h hrun
    · have hidle : ¬((s.taken rest).lane l).busy = true := by
        rw [busy_iff, lane_taken]; simp [hactive, hphase]
      rw [if_neg hidle] at hrun
      refine ⟨fun hnil => ?_, fun _ => exec_laneModePass_of_run h hrun⟩
      rw [judgeHead_withLane_of_nil _ l (x := passing ((s.taken rest).lane l)) hnil] at hrun
      exact exec_laneModePass_of_run h hrun

end Sys2Proof.Proofs.LaneQueues
end

section
/-! PROOFS. Slot Generators and configurations: what can write them, and that every step keeps them lawful. -/

namespace Sys2Proof.Proofs.Generators

-- One theorem at a time: each elaboration thread takes 1 GiB of the check's memory limit.
set_option Elab.async false

open Sys2Proof Sys2Proof.Machine Sys2Proof.Proofs.Messages

/-! ### Configuration and Slot Generator of every lane, and the operations that leave both -/

/-- What R103 and R109 speak of: every lane's configuration and Slot Generator. -/
def pacing (s : State) (l : LaneId) : LaneConfig × SlotGenerator := ((s.lane l).config, (s.lane l).slots)

/-- The law of a lane reads its configuration and its Slot Generator alone. -/
theorem generatorLawful_congr {x y : Lane} (hc : y.config = x.config) (hs : y.slots = x.slots) (h : x.generatorLawful) :
    y.generatorLawful := by
  unfold Lane.generatorLawful Lane.paced at h ⊢
  rw [hc, hs]
  exact h

/-- A state with the same configurations and Slot Generators is as lawful. -/
theorem generatorsLawful_of_pacing {s t : State} (hp : pacing t = pacing s) (h : GeneratorsLawful s) : GeneratorsLawful t := by
  intro l
  obtain ⟨hc, hs⟩ := Prod.mk.inj (congrFun hp l)
  exact generatorLawful_congr hc hs (h l)

theorem pacing_of_lanes {s t : State} (h : t.lanes = s.lanes) : pacing t = pacing s := by
  unfold pacing State.lane; rw [h]

section
variable (s : State) (l : LaneId)

/-! #### Updates of one block -/

@[simp] theorem pacing_onPool (f : BlockPool → BlockPool) : pacing (s.onPool f) = pacing s := rfl
@[simp] theorem pacing_onTable (f : MessageTable → MessageTable) : pacing (s.onTable f) = pacing s := rfl
@[simp] theorem pacing_onNotices (f : NoticeUnit → NoticeUnit) : pacing (s.onNotices f) = pacing s := rfl
@[simp] theorem pacing_onLink (f : ControlLink → ControlLink) : pacing (s.onLink f) = pacing s := rfl
@[simp] theorem pacing_onRecord (t : Ticket) (f : Record → Record) : pacing (s.onRecord t f) = pacing s := rfl
@[simp] theorem pacing_raise (e : Event) : pacing (s.raise e) = pacing s := rfl
@[simp] theorem pacing_raiseLane (k : NoticeKind) (t : Ticket) (d : Detail) : pacing (s.raiseLane l k t d) = pacing s := rfl
@[simp] theorem pacing_raisePart (k : NoticeKind) (d : Detail) : pacing (s.raisePart k d) = pacing s := rfl
@[simp] theorem pacing_dropFree (n : Nat) : pacing (s.dropFree n) = pacing s := rfl
@[simp] theorem pacing_returnBlocks (bs : List BlockNo) : pacing (s.returnBlocks bs) = pacing s := rfl
@[simp] theorem pacing_reserve (t : Ticket) (n : Nat) : pacing (s.reserve t n) = pacing s := rfl
@[simp] theorem pacing_removeWaiting : pacing (s.removeWaiting l) = pacing s := rfl
@[simp] theorem pacing_appendWaiting (e : WaitEntry) : pacing (s.appendWaiting e) = pacing s := rfl
@[simp] theorem pacing_setNeed (n : Nat) : pacing (s.setNeed l n) = pacing s := rfl
@[simp] theorem pacing_taken (rest : List Request) : pacing (s.taken rest) = pacing s := rfl
@[simp] theorem pacing_respond (q : Request) (r : Reply) : pacing (s.respond q r) = pacing s := rfl

/-- An update of a lane that writes neither its configuration nor its Slot Generator. -/
theorem pacing_onLane {f : Lane → Lane} (hc : (f (s.lane l)).config = (s.lane l).config)
    (hs : (f (s.lane l)).slots = (s.lane l).slots) : pacing (s.onLane l f) = pacing s := by
  funext m
  unfold pacing
  by_cases h : l = m
  · subst h; rw [lane_onLane_self, hc, hs]
  · rw [lane_onLane_of_ne s f h]

@[simp] theorem pacing_onCounters (f : LaneCounters → LaneCounters) : pacing (s.onCounters l f) = pacing s :=
  pacing_onLane s l rfl rfl
@[simp] theorem pacing_onPort (f : DropPort → DropPort) : pacing (s.onPort l f) = pacing s := pacing_onLane s l rfl rfl
@[simp] theorem pacing_setPhase (p : Phase) : pacing (s.setPhase l p) = pacing s := pacing_onLane s l rfl rfl
@[simp] theorem pacing_setMode (m : Mode) : pacing (s.setMode l m) = pacing s := pacing_onLane s l rfl rfl
@[simp] theorem pacing_insertNew (t : Ticket) (u : Bool) : pacing (s.insertNew l t u) = pacing s := pacing_onLane s l rfl rfl
@[simp] theorem pacing_requeue (t : Ticket) (u : Bool) : pacing (s.requeue l t u) = pacing s := pacing_onLane s l rfl rfl
@[simp] theorem pacing_markResync (u : Bool) : pacing (s.markResync l u) = pacing s := pacing_onLane s l rfl rfl
@[simp] theorem pacing_countDamaged : pacing (s.countDamaged l) = pacing s := pacing_onLane s l rfl rfl
@[simp] theorem pacing_countStray : pacing (s.countStray l) = pacing s := pacing_onLane s l rfl rfl
@[simp] theorem pacing_startAck : pacing (s.startAck l) = pacing s := pacing_onLane s l rfl rfl
@[simp] theorem pacing_cutAttempt : pacing (s.cutAttempt l) = pacing s := pacing_onLane s l rfl rfl
@[simp] theorem pacing_hunt : pacing (s.hunt l) = pacing s := pacing_onLane s l rfl rfl

/-! #### The grant scan and head selection -/

@[simp] theorem pacing_activate (t : Ticket) (n : Nat) : pacing (s.activate l t n) = pacing s :=
  pacing_onLane _ l rfl rfl

@[simp] theorem pacing_grant (e : WaitEntry) : pacing (s.grant e) = pacing s := by
  unfold State.grant; split <;> simp

@[simp] theorem pacing_scanFrom (es : List WaitEntry) : pacing (s.scanFrom es) = pacing s := by
  induction es generalizing s with
  | nil => rfl
  | cons e es ih =>
    rcases scanFrom_cons_cases s e es with ⟨-, h⟩ | ⟨-, -, h⟩ | ⟨-, -, h⟩
    · rw [h, ih]
    · rw [h, ih, pacing_grant]
    · rw [h]

@[simp] theorem pacing_grantScan : pacing s.grantScan = pacing s := pacing_scanFrom s _

@[simp] theorem pacing_spaceStep (r : Record) : pacing (s.spaceStep l r) = pacing s := by
  unfold State.spaceStep; dsimp only; split_ifs <;> simp

@[simp] theorem pacing_judgeHead : pacing (s.judgeHead l) = pacing s := by
  unfold State.judgeHead; split <;> [skip; split_ifs] <;> simp

@[simp] theorem pacing_updateNeed : pacing (s.updateNeed l) = pacing s := by
  unfold State.updateNeed; split <;> [skip; split_ifs] <;> simp

@[simp] theorem pacing_headChanged : pacing (s.headChanged l) = pacing s := by
  unfold State.headChanged; split <;> simp

@[simp] theorem pacing_stopWaiting : pacing (s.stopWaiting l) = pacing s := by
  unfold State.stopWaiting; split <;> simp

@[simp] theorem pacing_leaveWait : pacing (s.leaveWait l) = pacing s := by
  unfold State.leaveWait; split_ifs <;> simp

/-! #### Outcomes of an attempt -/

@[simp] theorem pacing_endRecord (t : Ticket) (st : RecordState) (c : Cause) (k : Option Byte) :
    pacing (s.endRecord t st c k) = pacing s := pacing_of_lanes (endRecord_lanes s t st c k)

@[simp] theorem pacing_completeRecord (t : Ticket) (n : Nat) : pacing (s.completeRecord t n) = pacing s :=
  pacing_of_lanes (completeRecord_lanes s t n)

@[simp] theorem pacing_stopBusy (t : Ticket) : pacing (s.stopBusy l t) = pacing s := by
  have hidle : pacing (s.onLane l fun x => { x with active := none, phase := .idle }) = pacing s := pacing_onLane s l rfl rfl
  rcases stopBusy_cases s l t with ⟨-, h⟩ | ⟨-, h⟩ <;> simp [h, hidle]

@[simp] theorem pacing_failRecord (t : Ticket) (c : Cause) (k : Option Byte) (u : Bool) :
    pacing (s.failRecord l t c k u) = pacing s := by
  unfold State.failRecord; dsimp only; split_ifs <;> simp

@[simp] theorem pacing_cancelActive (t : Ticket) (u : Bool) : pacing (s.cancelActive l t u) = pacing s := by
  unfold State.cancelActive
  rw [pacing_stopBusy, pacing_onLane _ l rfl rfl]
  simp

@[simp] theorem pacing_takeMiss (reply : Bool) : pacing (s.takeMiss l reply) = pacing s := by
  have hready (u : State) (k : FrameKind) : pacing (u.onLane l fun x => { x with phase := .waitSlot, ready := k }) = pacing u :=
    pacing_onLane u l rfl rfl
  unfold State.takeMiss
  split <;> [rfl; skip]
  split <;> [rfl; skip]
  dsimp only
  split_ifs <;> simp [hready]

@[simp] theorem pacing_takeBusy (t : Ticket) (r : Record) : pacing (s.takeBusy l t r) = pacing s := by
  have hcounted (u : State) : pacing (u.onLane l fun x => { x with busyCount := x.busyCount + 1 }) = pacing u :=
    pacing_onLane u l rfl rfl
  unfold State.takeBusy
  dsimp only
  split_ifs
  · simp [hcounted]
  · simp [hcounted]
  · rw [pacing_onLane _ l rfl rfl]; simp [hcounted]

@[simp] theorem pacing_takeReject (t : Ticket) (code : Byte) : pacing (s.takeReject l t code) = pacing s := by
  unfold State.takeReject; simp

@[simp] theorem pacing_takeOversize (t : Ticket) (r : Record) : pacing (s.takeOversize l t r) = pacing s := by
  unfold State.takeOversize
  rw [pacing_failRecord, pacing_onLane _ l rfl rfl]

@[simp] theorem pacing_completeActive (t : Ticket) (r : Record) (n : Nat) : pacing (s.completeActive l t r n) = pacing s := by
  have hseq (u : State) : pacing (u.onLane l fun x => { x with seq := !x.seq, resync := false }) = pacing u :=
    pacing_onLane u l rfl rfl
  have hquota (u : State) : pacing (u.onLane l fun x => { x with quotaLeft := quotaAfterDone x }) = pacing u :=
    pacing_onLane u l rfl rfl
  unfold State.completeActive
  dsimp only
  split <;> simp [hseq, hquota]

/-! #### Answers, reports and the halt-abort -/

@[simp] theorem pacing_storeReply (f : RxFrame) (bytes : List Byte) : pacing (s.storeReply l f bytes) = pacing s :=
  pacing_of_lanes (storeReply_lanes s l f bytes)

@[simp] theorem pacing_judgeAnswer (control : Byte) (payload : List Byte) :
    pacing (s.judgeAnswer l control payload) = pacing s := by
  unfold State.judgeAnswer
  split_ifs <;> [skip; simp]
  split <;> [rfl; skip]
  split <;> [rfl; skip]
  split <;> (try split_ifs) <;> simp

@[simp] theorem pacing_damagedFrame (expected reply : Bool) : pacing (s.damagedFrame l expected reply) = pacing s := by
  unfold State.damagedFrame; split_ifs <;> simp

@[simp] theorem pacing_arriveReport (bytes : List Byte) : pacing (s.arriveReport l bytes) = pacing s := by
  unfold State.arriveReport
  split_ifs
  · rw [pacing_raiseLane, pacing_onLane _ l rfl rfl]
  · simp

@[simp] theorem pacing_haltAbort (t : Ticket) : pacing (s.haltAbort l t) = pacing s := by
  unfold State.haltAbort
  split <;> [rfl; skip]
  dsimp only
  split_ifs <;> simp

/-! #### The receiver of a Drop Port -/

@[simp] theorem pacing_dropStartByte : pacing (s.dropStartByte l) = pacing s := by
  unfold State.dropStartByte; split_ifs <;> simp

@[simp] theorem pacing_dropHeader (control lenHi lenLo : Byte) : pacing (s.dropHeader l control lenHi lenLo) = pacing s := by
  have hack : pacing (s.onLane l fun x => { x with ackTimer := none }) = pacing s := pacing_onLane s l rfl rfl
  unfold State.dropHeader
  split <;> [skip; rfl]
  dsimp only
  split_ifs <;> simp [hack]

@[simp] theorem pacing_cutFrame (taken : List Byte) : pacing (s.cutFrame l taken) = pacing s := by
  unfold State.cutFrame; split <;> (try split_ifs) <;> simp

@[simp] theorem pacing_gapCut (cut : GapCut) : pacing (s.gapCut l cut) = pacing s := by
  unfold State.gapCut; split_ifs <;> simp

@[simp] theorem pacing_dropFrameEnd (chars : List Byte) : pacing (s.dropFrameEnd l chars) = pacing s := by
  unfold State.dropFrameEnd
  split <;> [skip; rfl]
  dsimp only
  split_ifs <;> [split; skip; skip] <;> simp

/-! #### Timers of a lane -/

@[simp] theorem pacing_releaseReached : pacing (s.releaseReached l) = pacing s := by
  unfold State.releaseReached; split_ifs <;> simp

@[simp] theorem pacing_frameSent : pacing (s.frameSent l) = pacing s := by
  unfold State.frameSent; split_ifs <;> simp

@[simp] theorem pacing_ackExpiry : pacing (s.ackExpiry l) = pacing s := by
  unfold State.ackExpiry
  split_ifs
  · rw [pacing_takeMiss, pacing_onLane _ l rfl rfl]
  · rfl

@[simp] theorem pacing_backoffExpiry : pacing (s.backoffExpiry l) = pacing s := by
  unfold State.backoffExpiry
  split_ifs
  · exact pacing_onLane s l rfl rfl
  · rfl

@[simp] theorem pacing_dropBreakEnd : pacing (s.dropBreakEnd l) = pacing s := by
  unfold State.dropBreakEnd; split_ifs <;> simp

@[simp] theorem pacing_dropResetEnd : pacing (s.dropResetEnd l) = pacing s := by
  unfold State.dropResetEnd
  split_ifs
  · rw [pacing_stopBusy, pacing_onLane _ l rfl rfl]
  · rfl

/-! #### The control link -/

@[simp] theorem pacing_linkDamage (why : DamageReason) : pacing (s.linkDamage why) = pacing s := rfl

@[simp] theorem pacing_controlStartByte : pacing s.controlStartByte = pacing s := by
  unfold State.controlStartByte; split_ifs <;> simp

@[simp] theorem pacing_controlHeader (lenHi lenLo : Byte) : pacing (s.controlHeader lenHi lenLo) = pacing s := by
  unfold State.controlHeader; split_ifs <;> simp

@[simp] theorem pacing_goodRequest (q : Request) : pacing (s.goodRequest q) = pacing s := by
  unfold State.goodRequest; dsimp only; split_ifs <;> simp

@[simp] theorem pacing_controlFrameEnd (chars : List Byte) : pacing (s.controlFrameEnd chars) = pacing s := by
  unfold State.controlFrameEnd
  split <;> [skip; rfl]
  dsimp only
  split_ifs <;> [skip; simp; rfl]
  split <;> [split_ifs; skip] <;> simp

@[simp] theorem pacing_controlGap : pacing s.controlGap = pacing s := by
  unfold State.controlGap; split_ifs <;> simp

@[simp] theorem pacing_linkReset : pacing s.linkReset = pacing s := pacing_of_lanes (linkReset_lanes s)

@[simp] theorem pacing_seeHrx (h : HrxSample) : pacing (s.seeHrx h) = pacing s := pacing_of_lanes (seeHrx_lanes s h)

@[simp] theorem pacing_holdQuiet : pacing (s.holdQuiet l) = pacing s := by
  unfold State.holdQuiet; split_ifs <;> simp

@[simp] theorem pacing_quietExpiry : pacing s.quietExpiry = pacing s := by
  have hfold (ls : List LaneId) (u : State) : pacing (ls.foldl (fun s l => s.holdQuiet l) u) = pacing u := by
    induction ls generalizing u with
    | nil => rfl
    | cons m ls ih => rw [List.foldl_cons, ih, pacing_holdQuiet]
  unfold State.quietExpiry
  split_ifs
  · rw [pacing_grantScan, hfold, pacing_onLink]
  · rfl

@[simp] theorem pacing_responseStart : pacing s.responseStart = pacing s := by
  unfold State.responseStart; split <;> [skip; split_ifs] <;> simp

@[simp] theorem pacing_noticeStart : pacing s.noticeStart = pacing s := by
  unfold State.noticeStart; split <;> [skip; split_ifs] <;> simp

/-! #### Requests -/

@[simp] theorem pacing_enterHalt : pacing (s.enterHalt l) = pacing s := by
  unfold State.enterHalt; split <;> simp

@[simp] theorem pacing_flushAll (q : List Ticket) : pacing (s.flushAll q) = pacing s := by
  unfold State.flushAll
  induction q generalizing s with
  | nil => rfl
  | cons t q ih => rw [List.foldl_cons, ih, pacing_endRecord]

@[simp] theorem pacing_flushLane : pacing (s.flushLane l) = pacing s := by
  unfold State.flushLane
  rw [pacing_grantScan, pacing_stopWaiting, pacing_onLane _ l rfl rfl, pacing_flushAll]

@[simp] theorem pacing_createRecord (a : SubmitArgs) (t : Ticket) : pacing (s.createRecord a t) = pacing s := by
  unfold State.createRecord; simp

@[simp] theorem pacing_enqueue (a : SubmitArgs) (t : Ticket) : pacing (s.enqueue a t) = pacing s := by
  unfold State.enqueue; dsimp only; split_ifs <;> simp

@[simp] theorem pacing_cancelQueued (r : Record) : pacing (s.cancelQueued r) = pacing s := by
  have hqueue (u : State) : pacing (u.onLane r.lane fun x => { x with queue := x.queue.erase r.ticket }) = pacing u :=
    pacing_onLane u r.lane rfl rfl
  unfold State.cancelQueued; dsimp only; split_ifs <;> simp [hqueue]

@[simp] theorem pacing_markActive (r : Record) : pacing (s.markActive r) = pacing s := by
  unfold State.markActive; dsimp only; split <;> simp

@[simp] theorem pacing_retireRecord (r : Record) : pacing (s.retireRecord r) = pacing s := by
  unfold State.retireRecord; dsimp only; split_ifs <;> simp

end

/-! ### The meanings of the requests that leave both -/

section
variable (body : List Byte) (s : State)

theorem pacing_runIdentify : pacing (runIdentify body s).2 = pacing s := by
  unfold runIdentify; split <;> rfl

theorem pacing_runPartStatus : pacing (runPartStatus body s).2 = pacing s := by
  unfold runPartStatus; split <;> [rfl; (dsimp only; split_ifs <;> rfl)]

theorem pacing_runPartConfig : pacing (runPartConfig body s).2 = pacing s := by
  unfold runPartConfig; split <;> rfl

theorem pacing_runRestart : pacing (runRestart body s).2 = pacing s := by
  unfold runRestart; split <;> rfl

theorem pacing_runLaneModeHold : pacing (runLaneModeHold body s).2 = pacing s := by
  unfold runLaneModeHold; split <;> [rfl; split] <;> simp

theorem pacing_runLaneModePass : pacing (runLaneModePass body s).2 = pacing s := by
  have hpass (l : LaneId) : pacing (s.onLane l fun x => { x with mode := .pass, quotaLeft := x.config.quota }) = pacing s :=
    pacing_onLane s l rfl rfl
  unfold runLaneModePass
  split <;> [rfl; split] <;> [(dsimp only; split_ifs); skip; skip] <;> simp [hpass]

theorem pacing_runLaneModeHalt : pacing (runLaneModeHalt body s).2 = pacing s := by
  unfold runLaneModeHalt; split <;> [rfl; split] <;> simp

theorem pacing_runLaneStatus : pacing (runLaneStatus body s).2 = pacing s := by
  unfold runLaneStatus; split <;> [rfl; (dsimp only; split_ifs)] <;> simp

theorem pacing_runLaneFlush : pacing (runLaneFlush body s).2 = pacing s := by
  unfold runLaneFlush; split <;> [rfl; (dsimp only; split_ifs)] <;> simp

theorem pacing_runLaneReseqForce : pacing (runLaneReseqForce body s).2 = pacing s := by
  unfold runLaneReseqForce; split <;> [rfl; split_ifs] <;> [rfl; exact pacing_onLane s _ rfl rfl]

theorem pacing_runLaneReseqMark : pacing (runLaneReseqMark body s).2 = pacing s := by
  unfold runLaneReseqMark; split <;> [rfl; split_ifs] <;> [rfl; exact pacing_onLane s _ rfl rfl]

theorem pacing_runDropReset : pacing (runDropReset body s).2 = pacing s := by
  unfold runDropReset; split <;> [rfl; split_ifs] <;> [rfl; exact pacing_onLane s _ rfl rfl]

theorem pacing_runSubmit : pacing (runSubmit body s).2 = pacing s := by
  unfold runSubmit; split <;> [rfl; split_ifs] <;> [rfl; rfl; rfl; split] <;> simp

theorem pacing_runCancel : pacing (runCancel body s).2 = pacing s := by
  unfold runCancel; split <;> [rfl; split] <;> [rfl; split] <;> simp

theorem pacing_runQuery : pacing (runQuery body s).2 = pacing s := by
  unfold runQuery; split <;> [rfl; split] <;> rfl

theorem pacing_runReplyRead : pacing (runReplyRead body s).2 = pacing s := by
  unfold runReplyRead; split <;> [rfl; split] <;> [rfl; split_ifs] <;> rfl

theorem pacing_runCollect : pacing (runCollect body s).2 = pacing s := by
  unfold runCollect; split <;> rfl

theorem pacing_runRetire : pacing (runRetire body s).2 = pacing s := by
  unfold runRetire; split <;> [rfl; split] <;> [rfl; split_ifs] <;> simp

theorem pacing_runReportTake : pacing (runReportTake body s).2 = pacing s := by
  unfold runReportTake; split <;> [rfl; split] <;> [rfl; exact pacing_onLane s _ rfl rfl]

end

/-! ### The operations that write one of them -/

/-- Replacing one lane by a lawful one keeps the law. -/
theorem generatorsLawful_onLane {s : State} (h : GeneratorsLawful s) (l : LaneId) {f : Lane → Lane}
    (hf : (f (s.lane l)).generatorLawful) : GeneratorsLawful (s.onLane l f) := by
  intro m
  by_cases hm : l = m
  · subst hm; rw [lane_onLane_self]; exact hf
  · rw [lane_onLane_of_ne s f hm]; exact h m

theorem reset_generatorLawful : Lane.reset.generatorLawful := by decide

/-- Either reset leaves every lane unpaced, with the default configuration and an empty Slot Generator (R64, R103). -/
theorem generatorsLawful_afterReset (c : ResetCause) (straps : BitVec 2) (hrxLow : Bool) (pending : List Instr) :
    GeneratorsLawful (State.afterReset c straps hrxLow pending) := by
  intro l
  have hl : (State.afterReset c straps hrxLow pending).lane l = Lane.reset := by
    simp [State.lane, State.afterReset, Vector.get_eq_getElem]
  rw [hl]
  exact reset_generatorLawful

section
variable {x : Lane}

/-- The laws of a paced lane and of an unpaced one (R103, R109). -/
theorem generatorLawful_iff : x.generatorLawful ↔ x.config.legal = true ∧
    (x.config.pacingNum ≠ 0 → x.slots.accumulator < x.config.pacingDen ∧ x.slots.credits ≤ x.config.burst) ∧
    (x.config.pacingNum = 0 → x.slots = ⟨0, 0, false⟩) := by
  unfold Lane.generatorLawful Lane.paced
  by_cases h : x.config.pacingNum = 0 <;> simp [h]

/-- N is at most D and D is at least 1 in every legal configuration (R65, R66). -/
theorem pacing_of_legal {c : LaneConfig} (h : c.legal = true) : c.pacingNum ≤ c.pacingDen ∧ 1 ≤ c.pacingDen := by
  simp only [LaneConfig.legal, Bool.and_eq_true, decide_eq_true_eq] at h
  omega

/-- LANE_CONFIG clears the Slot Generator, which suits every legal configuration (R108). -/
theorem generatorLawful_configure {c : LaneConfig} (h : c.legal = true) : (x.configure c).generatorLawful := by
  obtain ⟨-, hden⟩ := pacing_of_legal h
  exact generatorLawful_iff.2 ⟨h, fun _ => ⟨hden, Nat.zero_le _⟩, fun _ => rfl⟩

/-- An earned credit joins below burst and is lost at burst; an unpaced lane has none due (R104, R109). -/
theorem generatorLawful_earn (h : x.generatorLawful) (hdue : x.slots.due = true) :
    ({ x with slots := x.slots.earn x.config.burst } : Lane).generatorLawful := by
  obtain ⟨hlegal, hpaced, hunpaced⟩ := generatorLawful_iff.1 h
  refine generatorLawful_iff.2 ⟨hlegal, fun hn => ?_, fun hn => ?_⟩
  · obtain ⟨hacc, hcredits⟩ := hpaced hn
    refine ⟨hacc, ?_⟩
    simp only [SlotGenerator.earn]
    split <;> omega
  · rw [hunpaced hn] at hdue
    cases hdue

/-- A frame of a paced lane takes one credit away (R105). -/
theorem generatorLawful_spend (h : x.generatorLawful) (phase : Phase) (port : DropPort) :
    ({ x with phase := phase, port := port
              slots := if x.paced then { x.slots with credits := x.slots.credits - 1 } else x.slots } :
      Lane).generatorLawful := by
  obtain ⟨hlegal, hpaced, hunpaced⟩ := generatorLawful_iff.1 h
  refine generatorLawful_iff.2 ⟨hlegal, fun hn => ?_, fun hn => ?_⟩
  · obtain ⟨hacc, hcredits⟩ := hpaced hn
    have hp : x.paced = true := by simpa [Lane.paced] using hn
    rw [if_pos hp]
    exact ⟨hacc, (Nat.sub_le _ _).trans hcredits⟩
  · have hp : ¬x.paced = true := by simpa [Lane.paced] using hn
    rw [if_neg hp]
    exact hunpaced hn

/-- A step of the accumulator stays below D, since N is at most D (R104). -/
theorem generatorLawful_advance (h : x.generatorLawful) (d : DrxSample) : (x.advance d).generatorLawful := by
  obtain ⟨hlegal, hpaced, hunpaced⟩ := generatorLawful_iff.1 h
  obtain ⟨hle, -⟩ := pacing_of_legal hlegal
  refine generatorLawful_iff.2 ⟨hlegal, fun hn => ?_, fun hn => ?_⟩
  · obtain ⟨hacc, hcredits⟩ := hpaced hn
    simp only [Lane.advance, SlotGenerator.step] at hn ⊢
    rw [if_neg hn]
    split
    · exact ⟨by dsimp only; omega, hcredits⟩
    · exact ⟨by dsimp only; omega, hcredits⟩
  · have hn' : x.config.pacingNum = 0 := hn
    simp only [Lane.advance, SlotGenerator.step, hn', if_true]
    exact hunpaced hn'

end

/-- A LANE_CONFIG body is read only when its record is in the ranges of R65 (R66). -/
theorem legal_of_laneConfigArgs {body : List Byte} {l : LaneId} {c : LaneConfig} (h : laneConfigArgs body = .ok (l, c)) :
    c.legal = true := by
  have hargument {ok : Bool} {a b : LaneId × LaneConfig} (ha : argument ok a = .ok b) : ok = true ∧ a = b := by
    unfold argument at ha
    split at ha
    · exact ⟨by assumption, Except.ok.inj ha⟩
    · cases ha
  unfold laneConfigArgs at h
  split at h
  · split at h
    · obtain ⟨hlegal, hc⟩ := hargument h
      rw [← (Prod.mk.inj hc).2]
      exact hlegal
    · cases h
  · cases h

section
variable {s : State} (h : GeneratorsLawful s)
include h

theorem generatorsLawful_creditEarned (l : LaneId) : GeneratorsLawful (s.creditEarned l) := by
  unfold State.creditEarned
  split_ifs with hdue
  · exact generatorsLawful_onLane h l (generatorLawful_earn (h l) hdue)
  · exact h

theorem generatorsLawful_startFrame (l : LaneId) : GeneratorsLawful (s.startFrame l) := by
  unfold State.startFrame
  split_ifs <;> [split; skip]
  · exact h
  · exact generatorsLawful_onLane (generatorsLawful_of_pacing (pacing_onRecord s _ _) h) l (generatorLawful_spend (h l) _ _)
  · exact h

/-- LANE_CONFIG writes only what has passed the ranges of R65 (R66). -/
theorem generatorsLawful_runLaneConfig (body : List Byte) : GeneratorsLawful (runLaneConfig body s).2 := by
  unfold runLaneConfig
  split
  · exact h
  · rename_i l c hargs
    split_ifs
    · exact h
    · exact h
    · exact generatorsLawful_onLane h l (generatorLawful_configure (legal_of_laneConfigArgs hargs))

theorem generatorsLawful_linkBreak : GeneratorsLawful s.linkBreak := by
  rcases linkBreak_cases s with ⟨-, e⟩ | ⟨-, -, e⟩ | ⟨-, -, e⟩ <;> rw [e]
  · exact h
  · exact generatorsLawful_afterReset _ _ _ _
  · exact generatorsLawful_of_pacing (pacing_onLink s _) h

theorem generatorsLawful_controlFrameSent : GeneratorsLawful s.controlFrameSent := by
  rcases controlFrameSent_cases s with ⟨-, e⟩ | ⟨-, -, e⟩ | ⟨-, e⟩ <;> rw [e]
  · exact h
  · exact generatorsLawful_afterReset _ _ _ _
  · exact generatorsLawful_of_pacing (pacing_onLink s _) h

end

/-! ### Every step (R65, R103, R104, R109) -/

theorem generatorsLawful_foldl {g : State → LaneId → State} (hg : ∀ u l, GeneratorsLawful u → GeneratorsLawful (g u l))
    (ls : List LaneId) {s : State} (h : GeneratorsLawful s) : GeneratorsLawful (ls.foldl g s) := by
  induction ls generalizing s with
  | nil => exact h
  | cons l ls ih => exact ih (hg s l h)

/-- Of the timed steps of a lane only the credit earned writes its Slot Generator. -/
theorem generatorsLawful_settleLane {s : State} (h : GeneratorsLawful s) (l : LaneId) : GeneratorsLawful (s.settleLane l) :=
  generatorsLawful_of_pacing (by simp [State.settleLane]) (generatorsLawful_creditEarned h l)

/-- The timed steps that an advance takes first: credits, the link break and the frame starts may write. -/
theorem generatorsLawful_settle {s : State} (h : GeneratorsLawful s) (p : TickSample) : GeneratorsLawful (s.settle p) := by
  unfold State.settle
  dsimp only
  refine generatorsLawful_foldl (fun _ l hu => generatorsLawful_startFrame hu l) _ ?_
  refine generatorsLawful_foldl (fun u l hu => generatorsLawful_of_pacing (pacing_gapCut u l _) hu) _ ?_
  refine generatorsLawful_of_pacing (pacing_seeHrx _ _) (generatorsLawful_linkBreak ?_)
  refine generatorsLawful_of_pacing ((pacing_controlGap _).trans (pacing_quietExpiry _)) ?_
  exact generatorsLawful_foldl (fun u l hu => generatorsLawful_settleLane hu l) _ h

theorem generatorsLawful_advance {s : State} (h : GeneratorsLawful s) (p : TickSample) : GeneratorsLawful (s.advance p) := by
  intro l
  rw [lane_advance]
  exact generatorLawful_advance (h l) _

/-- A request command keeps the law when its meaning on every body does. -/
theorem generatorsLawful_takeRequest {s : State} (h : GeneratorsLawful s) {row : RequestRow}
    {run : List Byte → State → Reply × State} (hrun : ∀ body u, GeneratorsLawful u → GeneratorsLawful (run body u).2) :
    GeneratorsLawful (s.takeRequest row run) := by
  rcases takeRequest_cases s row run with e | ⟨q, rest, -, -, e⟩ <;> rw [e]
  · exact h
  · exact generatorsLawful_of_pacing (pacing_respond _ _ _)
      (hrun q.body _ (generatorsLawful_of_pacing (pacing_taken s rest) h))

/-- Every command completes in a lawful state: all but eight leave configurations and Slot Generators as they are. -/
theorem generatorsLawful_exec {s : State} (h : GeneratorsLawful s) (i : Instr) :
    ∃ t, exec i s = .next t ∧ GeneratorsLawful t := by
  have request {row : RequestRow} {run : List Byte → State → Reply × State}
      (hrun : ∀ body u, pacing (run body u).2 = pacing u) : GeneratorsLawful (s.takeRequest row run) :=
    generatorsLawful_takeRequest h fun body u hu => generatorsLawful_of_pacing (hrun body u) hu
  have same {t : State} (hp : pacing t = pacing s) : GeneratorsLawful t := generatorsLawful_of_pacing hp h
  cases i with
  | identify => exact ⟨_, rfl, request pacing_runIdentify⟩
  | partStatus => exact ⟨_, rfl, request pacing_runPartStatus⟩
  | partConfig => exact ⟨_, rfl, request pacing_runPartConfig⟩
  | restart => exact ⟨_, rfl, request pacing_runRestart⟩
  | laneConfig => exact ⟨_, rfl, generatorsLawful_takeRequest h fun body _ hu => generatorsLawful_runLaneConfig hu body⟩
  | laneModeHold => exact ⟨_, rfl, request pacing_runLaneModeHold⟩
  | laneModePass => exact ⟨_, rfl, request pacing_runLaneModePass⟩
  | laneModeHalt => exact ⟨_, rfl, request pacing_runLaneModeHalt⟩
  | laneStatus => exact ⟨_, rfl, request pacing_runLaneStatus⟩
  | laneFlush => exact ⟨_, rfl, request pacing_runLaneFlush⟩
  | laneReseqForce => exact ⟨_, rfl, request pacing_runLaneReseqForce⟩
  | laneReseqMark => exact ⟨_, rfl, request pacing_runLaneReseqMark⟩
  | dropReset => exact ⟨_, rfl, request pacing_runDropReset⟩
  | submit => exact ⟨_, rfl, request pacing_runSubmit⟩
  | cancel => exact ⟨_, rfl, request pacing_runCancel⟩
  | query => exact ⟨_, rfl, request pacing_runQuery⟩
  | replyRead => exact ⟨_, rfl, request pacing_runReplyRead⟩
  | collect => exact ⟨_, rfl, request pacing_runCollect⟩
  | retire => exact ⟨_, rfl, request pacing_runRetire⟩
  | reportTake => exact ⟨_, rfl, request pacing_runReportTake⟩
  | unknownRequest => exact ⟨_, rfl, request fun _ _ => rfl⟩
  | controlHeaderTaken lenHi lenLo => exact ⟨_, rfl, same (pacing_controlHeader s lenHi lenLo)⟩
  | controlFrameEnd chars => exact ⟨_, rfl, same (pacing_controlFrameEnd s chars)⟩
  | controlFrameGap => exact ⟨_, rfl, same (pacing_controlGap s)⟩
  | linkBreak => exact ⟨_, rfl, generatorsLawful_linkBreak h⟩
  | linkReset => exact ⟨_, rfl, same (pacing_linkReset s)⟩
  | hostQuietExpiry => exact ⟨_, rfl, same (pacing_quietExpiry s)⟩
  | responseStart => exact ⟨_, rfl, same (pacing_responseStart s)⟩
  | noticeStart => exact ⟨_, rfl, same (pacing_noticeStart s)⟩
  | controlFrameSent => exact ⟨_, rfl, generatorsLawful_controlFrameSent h⟩
  | restartReset pins =>
    refine ⟨_, rfl, ?_⟩
    split_ifs
    · exact generatorsLawful_afterReset _ _ _ _
    · exact h
  | pinReset low pins =>
    refine ⟨_, rfl, ?_⟩
    unfold State.pinReset
    split_ifs
    · exact generatorsLawful_of_pacing (pacing_of_lanes rfl) (generatorsLawful_afterReset .resetPin s.link.speed false s.pending)
    · exact generatorsLawful_afterReset _ _ _ _
  | tick pins =>
    refine ⟨_, rfl, ?_⟩
    split_ifs
    · exact h
    · exact generatorsLawful_advance (generatorsLawful_settle h pins) pins
  | slotCreditEarned lane => exact ⟨_, rfl, generatorsLawful_creditEarned h lane⟩
  | releaseTimeReached lane => exact ⟨_, rfl, same (pacing_releaseReached s lane)⟩
  | transmissionStart lane => exact ⟨_, rfl, generatorsLawful_startFrame h lane⟩
  | dropFrameSent lane => exact ⟨_, rfl, same (pacing_frameSent s lane)⟩
  | dropHeaderTaken lane control lenHi lenLo => exact ⟨_, rfl, same (pacing_dropHeader s lane control lenHi lenLo)⟩
  | dropGapCut lane cut => exact ⟨_, rfl, same (pacing_gapCut s lane cut)⟩
  | dropFrameEnd lane chars => exact ⟨_, rfl, same (pacing_dropFrameEnd s lane chars)⟩
  | ackTimeout lane => exact ⟨_, rfl, same (pacing_ackExpiry s lane)⟩
  | backoffExpiry lane => exact ⟨_, rfl, same (pacing_backoffExpiry s lane)⟩
  | dropResetBreakEnd lane => exact ⟨_, rfl, same (pacing_dropBreakEnd s lane)⟩
  | dropResetEnd lane => exact ⟨_, rfl, same (pacing_dropResetEnd s lane)⟩
  | dropStartByte lane => exact ⟨_, rfl, same (pacing_dropStartByte s lane)⟩
  | controlStartByte => exact ⟨_, rfl, same (pacing_controlStartByte s)⟩
  | dropFramingFault lane taken => exact ⟨_, rfl, same (pacing_cutFrame s lane taken)⟩

/-- Settles O58: an idle step leaves the state, and every command completes in a lawful one. -/
theorem everyStepKeepsTheGeneratorLaws : Obligations.EveryStepKeepsTheGeneratorLaws := by
  intro s t h hstep
  unfold step at hstep
  split at hstep
  · exact Host.Outcome.next.inj hstep ▸ h
  · rename_i c rest _
    have h' : GeneratorsLawful { s with pending := rest } := h
    obtain ⟨u, hu, hlaw⟩ := generatorsLawful_exec h' c
    obtain rfl : u = t := Host.Outcome.next.inj (hu.symm.trans hstep)
    exact hlaw

end Sys2Proof.Proofs.Generators
end

section
/-! PROOFS. Requests that set or report a lane: LANE_CONFIG, LANE_MODE to HOLD and to HALT, LANE_STATUS. -/

namespace Sys2Proof.Proofs.LaneModes

-- One theorem at a time: each elaboration thread takes 1 GiB of the check's memory limit.
set_option Elab.async false

open Sys2Proof Sys2Proof.Machine Sys2Proof.Proofs.Messages Sys2Proof.Proofs.LaneQueues

/-! ### The four requests, once their meaning on the body is known -/

section
variable {s u : State} {tag : Byte} {args : List Byte} {rest : List Request} {r : Reply} {l : LaneId}

theorem exec_laneConfig_of_run (h : Taken s ⟨tag, 0x10 :: args⟩ rest)
    (hrun : runLaneConfig (0x10 :: args) (s.taken rest) = (r, u)) :
    exec .laneConfig s = .next (u.appends tag (0x10 :: r.status.code :: r.content)) :=
  congrArg Host.Outcome.next (takeRequest_of_run h rfl hrun)

theorem exec_laneModeHold_of_run (h : Taken s ⟨tag, [0x11, BitVec.ofNat 8 l.val, 0x00]⟩ rest)
    (hrun : runLaneModeHold [0x11, BitVec.ofNat 8 l.val, 0x00] (s.taken rest) = (r, u)) :
    exec .laneModeHold s = .next (u.appends tag (0x11 :: r.status.code :: r.content)) :=
  congrArg Host.Outcome.next (takeRequest_of_run h rfl hrun)

theorem exec_laneModeHalt_of_run (h : Taken s ⟨tag, [0x11, BitVec.ofNat 8 l.val, 0x02]⟩ rest)
    (hrun : runLaneModeHalt [0x11, BitVec.ofNat 8 l.val, 0x02] (s.taken rest) = (r, u)) :
    exec .laneModeHalt s = .next (u.appends tag (0x11 :: r.status.code :: r.content)) :=
  congrArg Host.Outcome.next (takeRequest_of_run h rfl hrun)

theorem exec_laneStatus_of_run (h : Taken s ⟨tag, 0x12 :: args⟩ rest)
    (hrun : runLaneStatus (0x12 :: args) (s.taken rest) = (r, u)) :
    exec .laneStatus s = .next (u.appends tag (0x12 :: r.status.code :: r.content)) :=
  congrArg Host.Outcome.next (takeRequest_of_run h rfl hrun)

end

/-! ### LANE_CONFIG read back (R65, R188) -/

/-- A 16-bit field of a body, as its two bytes stand there, is the number it was written from. -/
theorem natOf_field {n : Nat} (h : n < 65536) :
    natOf [BitVec.ofNat 8 (n / 256 ^ 1), BitVec.ofNat 8 (n / 256 ^ 0)] = n := natOf_bytesOf_two h

/-- An 8-bit field of a body is the number it was written from. -/
theorem toNat_field {n : Nat} (h : n < 256) : (BitVec.ofNat 8 (n / 256 ^ 0)).toNat = n := by
  rw [pow_zero, Nat.div_one, BitVec.toNat_ofNat, Nat.mod_eq_of_lt h]

theorem failurePolicyOf_code (p : FailurePolicy) : failurePolicyOf p.code = some p := by cases p <;> rfl

/-- Settles O24: each field of a legal record fits its bytes, and the record so read is legal. -/
theorem laneConfigBodyIsReadBack : Obligations.LaneConfigBodyIsReadBack := by
  intro l c h
  have hlegal := h
  simp only [LaneConfig.legal, Bool.and_eq_true, decide_eq_true_eq] at h
  simp only [LaneConfig.bytes, bytesOf, List.cons_append, List.nil_append, laneConfigArgs, laneOf_ofNat, failurePolicyOf_code]
  rw [toNat_field (n := c.lineRate) (by omega), natOf_field (n := c.pacingNum) (by omega),
    natOf_field (n := c.pacingDen) (by omega), toNat_field (n := c.burst) (by omega),
    natOf_field (n := c.ackTimeout) (by omega), natOf_field (n := c.busyBackoff) (by omega),
    toNat_field (n := c.retryLimit) (by omega), toNat_field (n := c.busyLimit) (by omega),
    natOf_field (n := c.defaultReplyLimit) (by omega), natOf_field (n := c.cap) (by omega),
    natOf_field (n := c.quota) (by omega)]
  rw [argument, if_pos hlegal]

/-! ### LANE_CONFIG (R66, R67) -/

/-- A lane refuses LANE_CONFIG in PASS, with an active message and in a drop reset (R66, R75). -/
theorem laneActive_iff (x : Lane) :
    x.laneActive = true ↔ x.mode = .pass ∨ x.active.isSome = true ∨ x.phase = .resetting := by
  rw [Lane.laneActive, Bool.or_eq_true, busy_iff, beq_iff_eq]

/-- What LANE_CONFIG checks after it has read a legal record, in the order of R66. -/
theorem runLaneConfig_of_legal (s : State) (l : LaneId) {c : LaneConfig} (h : c.legal = true) :
    runLaneConfig (0x10 :: BitVec.ofNat 8 l.val :: c.bytes) s =
      if (s.lane l).laneActive then (.refuse .laneActive, s)
      else if c.cap < s.held l then (.refuse .badArgument, s)
      else (.ok [], s.withLane l ((s.lane l).configure c)) := by
  rw [runLaneConfig, laneConfigBodyIsReadBack l c h]
  rfl

/-- Settles O25: each check is reached once the ones before it have passed. -/
theorem laneConfigWritesTheRecord : Obligations.LaneConfigWritesTheRecord := by
  intro s tag l c rest h hlegal
  have hrun := runLaneConfig_of_legal (s.taken rest) l hlegal
  rw [lane_taken, held_taken] at hrun
  refine ⟨fun hactive => ?_, fun hmode hactive hphase => ?_⟩
  · rw [if_pos ((laneActive_iff _).2 hactive)] at hrun
    exact exec_laneConfig_of_run h hrun
  · have hfree : ¬(s.lane l).laneActive = true := by rw [laneActive_iff]; simp [hmode, hactive, hphase]
    rw [if_neg hfree] at hrun
    refine ⟨fun hcap => ?_, fun hcap => ?_⟩
    · rw [if_pos hcap] at hrun
      exact exec_laneConfig_of_run h hrun
    · rw [if_neg (Nat.not_lt.2 hcap)] at hrun
      rw [exec_laneConfig_of_run h hrun, Lane.configure]
      cases (s.lane l).port.rx <;> rfl

/-! ### A lane that leaves PASS by LANE_MODE (R71, R72) -/

/-- `s` after lane `l` has left PASS for `m` in WAIT_SPACE: its entry leaves the list, and one scan follows (R14). -/
def leftSpace (s : State) (l : LaneId) (m : Mode) : State :=
  State.grantScan { s.withLane l { s.lane l with mode := m, phase := .idle } with
    pool := { s.pool with waiting := s.pool.waiting.filter fun e => e.lane != l } }

section
variable {s : State} {l : LaneId} (m : Mode)

/-- A lane in WAIT_TIME that leaves PASS goes to IDLE. -/
theorem leave_of_waitTime (h : (s.lane l).phase = .waitTime) :
    (s.setMode l m).leaveWait l = s.withLane l { s.lane l with mode := m, phase := .idle } := by
  have hp : ((s.setMode l m).lane l).phase = .waitTime := by rw [lane_setMode, if_pos rfl]; exact h
  rcases leaveWait_cases (s.setMode l m) l with ⟨-, e⟩ | ⟨hp', -⟩ | ⟨hp', -, -⟩
  · rw [e, State.setPhase, State.setMode, onLane_onLane]; rfl
  · rw [hp] at hp'; cases hp'
  · exact absurd hp hp'

/-- A lane in WAIT_SPACE that leaves PASS goes to IDLE without its entry. -/
theorem leave_of_waitSpace (h : (s.lane l).phase = .waitSpace) : (s.setMode l m).leaveWait l = leftSpace s l m := by
  have hp : ((s.setMode l m).lane l).phase = .waitSpace := by rw [lane_setMode, if_pos rfl]; exact h
  rcases leaveWait_cases (s.setMode l m) l with ⟨hp', -⟩ | ⟨-, e⟩ | ⟨-, hp', -⟩
  · rw [hp] at hp'; cases hp'
  · have hlane : ((s.setMode l m).removeWaiting l).setPhase l .idle =
        (s.withLane l { s.lane l with mode := m, phase := .idle }).removeWaiting l := by
      change ((s.setMode l m).setPhase l .idle).removeWaiting l = _
      rw [State.setPhase, State.setMode, onLane_onLane]; rfl
    rw [e, hlane]; rfl
  · exact absurd hp hp'

/-- In every other phase leaving PASS changes the mode alone. -/
theorem leave_of_not_waiting (h1 : (s.lane l).phase ≠ .waitTime) (h2 : (s.lane l).phase ≠ .waitSpace) :
    (s.setMode l m).leaveWait l = s.withLane l { s.lane l with mode := m } := by
  have hp : ((s.setMode l m).lane l).phase = (s.lane l).phase := by rw [lane_setMode, if_pos rfl]
  rcases leaveWait_cases (s.setMode l m) l with ⟨hp', -⟩ | ⟨hp', -⟩ | ⟨-, -, e⟩
  · exact absurd (hp.symm.trans hp') h1
  · exact absurd (hp.symm.trans hp') h2
  · exact e

end

/-! ### LANE_MODE to HOLD (R69, R71) -/

section
variable {s : State} {l : LaneId}

theorem runLaneModeHold_of_hold (h : (s.lane l).mode = .hold) :
    runLaneModeHold [0x11, BitVec.ofNat 8 l.val, 0x00] s = (modeReply .hold 0, s) := by
  simp only [runLaneModeHold, laneModeArgs_of_target (target := 0x00) (by decide), h]

theorem runLaneModeHold_of_halt (h : (s.lane l).mode = .halt) :
    runLaneModeHold [0x11, BitVec.ofNat 8 l.val, 0x00] s = (modeReply .hold 0, s.setMode l .hold) := by
  simp only [runLaneModeHold, laneModeArgs_of_target (target := 0x00) (by decide), h]

theorem runLaneModeHold_of_pass (h : (s.lane l).mode = .pass) :
    runLaneModeHold [0x11, BitVec.ofNat 8 l.val, 0x00] s = (modeReply .hold 0, (s.setMode l .hold).leaveWait l) := by
  simp only [runLaneModeHold, laneModeArgs_of_target (target := 0x00) (by decide), h]

end

/-- Settles O26, along the three modes; from PASS along the phases. -/
theorem laneModeToHold : Obligations.LaneModeToHold := by
  intro s tag l rest h ok
  refine ⟨fun hhold => ?_, fun hhalt => ?_, fun hpass => ?_⟩
  · exact exec_laneModeHold_of_run h (runLaneModeHold_of_hold (s := s.taken rest) hhold)
  · exact exec_laneModeHold_of_run h (runLaneModeHold_of_halt (s := s.taken rest) hhalt)
  · have hrun := runLaneModeHold_of_pass (s := s.taken rest) hpass
    refine ⟨fun htime => ?_, fun hspace => ?_, fun htime hspace => ?_⟩
    · rw [leave_of_waitTime .hold (s := s.taken rest) htime] at hrun
      exact exec_laneModeHold_of_run h hrun
    · rw [leave_of_waitSpace .hold (s := s.taken rest) hspace] at hrun
      exact exec_laneModeHold_of_run h hrun
    · rw [leave_of_not_waiting .hold (s := s.taken rest) htime hspace] at hrun
      exact exec_laneModeHold_of_run h hrun

/-! ### LANE_STATUS (R96, R191) -/

theorem laneArgument_of_ge {b : Byte} (h : 8 ≤ b.toNat) : laneArgument b = .error .badArgument := by
  rw [laneArgument, laneOf_of_ge h]

/-- Only bit 0 of a flags byte is defined (R188). -/
theorem clear_bits_iff (flags : Byte) : (flags &&& 0xFE#8 == 0) = true ↔ flags.toNat ≤ 1 := by
  revert flags; decide

theorem clearFlag_of_gt {flags : Byte} (h : 2 ≤ flags.toNat) : clearFlag flags = .error .badArgument := by
  rw [clearFlag, argument, if_neg (by rw [clear_bits_iff]; omega)]

theorem clearFlag_of_le {flags : Byte} (h : flags.toNat ≤ 1) : clearFlag flags = .ok (decide (flags = 1#8)) := by
  have hbit : flags.getLsbD 0 = decide (flags = 1#8) := by revert flags; decide
  rw [clearFlag, argument, if_pos ((clear_bits_iff flags).2 h), hbit]

/-- A lane or a flags byte out of range (R190). -/
theorem laneStatusArgs_of_illegal {code lane flags : Byte} (h : 8 ≤ lane.toNat ∨ 2 ≤ flags.toNat) :
    laneStatusArgs [code, lane, flags] = .error .badArgument := by
  rw [laneStatusArgs]
  rcases h with h | h
  · rw [laneArgument_of_ge h]
  · rw [clearFlag_of_gt h]
    cases laneArgument lane <;> rfl

theorem laneStatusArgs_of_legal {flags : Byte} (h : flags.toNat ≤ 1) (code : Byte) (l : LaneId) :
    laneStatusArgs [code, BitVec.ofNat 8 l.val, flags] = .ok (l, decide (flags = 1#8)) := by
  rw [laneStatusArgs, laneArgument_ofNat, clearFlag_of_le h]

/-- The sequence state as a number: bit 0 seq, bit 1 the resync mark. -/
theorem sequenceState_eq (seq resync : Bool) :
    sequenceState seq resync = BitVec.ofNat 8 (seq.toNat + 2 * resync.toNat) := by
  revert seq resync; decide

theorem failurePolicy_code_eq (p : FailurePolicy) : p.code = if p = .halt then 0 else 1 := by cases p <;> rfl

/-- Settles O29: the response is the layout of R191 field by field, and the clear flag acts on the counters alone. -/
theorem laneStatusReportsThenClears : Obligations.LaneStatusReportsThenClears := by
  refine ⟨fun s tag lane flags rest h hbad => ?_, ?_⟩
  · exact exec_laneStatus_of_run (r := .refuse .badArgument) h
      (by simp only [runLaneStatus, laneStatusArgs_of_illegal hbad])
  · intro s tag flags l rest h hflags x c k body
    have hbody : body = 0x12 :: Status.ok.code :: s.laneStatusContent l := by
      simp only [body, x, c, k, State.laneStatusContent, LaneConfig.bytes, LaneCounters.bytes, sequenceState_eq,
        failurePolicy_code_eq, bytesOf_one, List.countP_eq_length_filter, List.append_assoc, List.cons_append, List.nil_append]
      rfl
    refine ⟨by simp [body], ?_⟩
    have hrun : runLaneStatus [0x12, BitVec.ofNat 8 l.val, flags] (s.taken rest) = (.ok (s.laneStatusContent l),
        if flags = 1#8 then (s.taken rest).onCounters l fun _ => .zero else s.taken rest) := by
      simp only [runLaneStatus, laneStatusArgs_of_legal hflags, decide_eq_true_eq]
      rfl
    rw [exec_laneStatus_of_run h hrun, hbody]
    split_ifs <;> rfl

/-! ### The halt-abort (R91, R92, R17, R28, R50) -/

/-- Two updates of one record are one, where the first keeps its ticket. -/
theorem onRecord_onRecord (s : State) (t : Ticket) {f : Record → Record} (hf : ∀ r, (f r).ticket = r.ticket)
    (g : Record → Record) : (s.onRecord t f).onRecord t g = s.onRecord t fun r => g (f r) := by
  have key (r : Record) : (if (if r.ticket = t then f r else r).ticket = t then g (if r.ticket = t then f r else r)
      else if r.ticket = t then f r else r) = if r.ticket = t then g (f r) else r := by
    by_cases h : r.ticket = t <;> simp [h, hf]
  simp only [State.onRecord, State.onTable, List.map_map, Function.comp_def, key]

/-- A record that ends after an update of it has ended with that update. -/
theorem ended_onRecord (s : State) (t : Ticket) (back : List BlockNo) {f : Record → Record}
    (hf : ∀ r, (f r).ticket = r.ticket) (g : Record → Record) :
    (s.onRecord t f).ended t back g = s.ended t back fun r => g (f r) := by
  have hrecords := congrArg (fun u : State => u.table.records) (onRecord_onRecord s t hf g)
  simp only [State.onRecord, onTable_table] at hrecords
  simp only [State.ended, State.onRecord, onTable_table, hrecords]
  rfl

/-- Reading any record after an update of one that keeps its ticket. -/
theorem record?_onRecord (s : State) (t : Ticket) {f : Record → Record} (hf : ∀ r, (f r).ticket = r.ticket) (a : Ticket) :
    (s.onRecord t f).record? a = (s.record? a).map fun r => if r.ticket = t then f r else r := by
  have hticket : ((fun r : Record => r.ticket == a) ∘ fun r => if r.ticket = t then f r else r) = (·.ticket == a) := by
    funext r
    simp only [Function.comp_apply]
    split <;> simp only [hf]
  rw [State.record?, State.onRecord, onTable_table, List.find?_map, hticket]
  rfl

/-- An update of a record that keeps its ticket and its class leaves what is URGENT (R48). -/
theorem isUrgent_onRecord (s : State) (t : Ticket) {f : Record → Record} (hf : ∀ r, (f r).ticket = r.ticket)
    (hu : ∀ r, (f r).urgent = r.urgent) : (s.onRecord t f).isUrgent = s.isUrgent := by
  funext a
  rw [State.isUrgent, State.isUrgent, record?_onRecord s t hf]
  cases s.record? a with
  | none => rfl
  | some r => simp only [Option.map_some]; split <;> simp only [hu]

/-- Behind the URGENT run of a queue that is cut where the run ends (R50). -/
theorem afterUrgent_eq {s : State} {urgents normals : List Ticket} (hu : ∀ a ∈ urgents, s.isUrgent a = true)
    (hn : ∀ a ∈ normals.head?, s.isUrgent a = false) (t : Ticket) :
    s.afterUrgent t (urgents ++ normals) = urgents ++ t :: normals := by
  obtain ⟨htake, hdrop⟩ : normals.takeWhile s.isUrgent = [] ∧ normals.dropWhile s.isUrgent = normals := by
    cases normals with
    | nil => exact ⟨rfl, rfl⟩
    | cons a rest => simp [hn a rfl]
  rw [State.afterUrgent, List.takeWhile_append_of_pos hu, List.dropWhile_append_of_pos hu, htake, hdrop,
    List.append_nil]

/-- A lane whose attempt has been cut: its timers stopped, its frame off DTXn, an answer in reception unexpected (R91). -/
def cutLane (x : Lane) : Lane :=
  { x with ackTimer := none, backoffTimer := none, port := { x.port with tx := .idle, rx := x.port.rx.unexpect } }

/-- Whether the record of a lane is uncertain once its attempt has been cut (R91). -/
def unsureAfterCut (x : Lane) (r : Record) : Bool := r.uncertain || x.phase == .awaitAnswer

/-- A record with its uncertain written. -/
def withUncertain (unsure : Bool) (y : Record) : Record := { y with uncertain := unsure }

/-- A record that returns to its queue: QUEUED, without its reservation (R17, R92). -/
def requeuedRecord (y : Record) : Record := { y with state := .queued, replyChain := [], reply := [] }

/-- `s` with the unmarked active record `r` of lane `l`, ticket `t`, back in the queue, before the scan (R50, R92). -/
def requeuedAtHalt (s : State) (l : LaneId) (t : Ticket) (r : Record) : State :=
  ((s.returnBlocks r.replyChain).onRecord t fun y => requeuedRecord (withUncertain (unsureAfterCut (s.lane l) r) y)).withLane l
    { cutLane (s.lane l) with
      mode := .halt
      queue := if r.urgent then t :: (s.lane l).queue else s.afterUrgent t (s.lane l).queue }

/-- `s` with the marked active record `r` of lane `l`, ticket `t`, CANCELLED, before the scan (R92). -/
def cancelledAtHalt (s : State) (l : LaneId) (t : Ticket) (r : Record) : State :=
  (s.ended t (r.payloadChain ++ r.replyChain) fun y =>
      Record.finish .cancelled .byHost none s.time (withUncertain (unsureAfterCut (s.lane l) r) y)).withLane l
    { cutLane (s.lane l) with mode := .halt, resync := (s.lane l).resync || unsureAfterCut (s.lane l) r }

/-- `s` with lane `l` in IDLE without an active message. -/
def atRest (s : State) (l : LaneId) : State := s.withLane l { s.lane l with active := none, phase := .idle }

/-- A lane in HALT that stops being busy after a scan raises IDLE (R75). -/
theorem grantScan_stopBusy_of_halt {s : State} {l : LaneId} (h : (s.lane l).mode = .halt) (t : Ticket) :
    s.grantScan.stopBusy l t = (atRest s.grantScan l).raise ⟨.idle, some l, t, .none, none⟩ := by
  rcases stopBusy_cases s.grantScan l t with ⟨hp, -⟩ | ⟨-, e⟩
  · rw [mode_grantScan, h] at hp; cases hp
  · exact e

section
variable {s : State} {l : LaneId} {t : Ticket} {r : Record}

/-- The halt-abort of a marked record, field by field. -/
theorem haltAbort_of_marked (hr : s.record? t = some r) (hmark : r.cancelMark = true) :
    s.haltAbort l t = (atRest (cancelledAtHalt s l t r).grantScan l).raise ⟨.idle, some l, t, .none, none⟩ := by
  let f := withUncertain (unsureAfterCut (s.lane l) r)
  have hunsure : ((s.cutAttempt l).onRecord t f).record? t = some (f r) :=
    record?_onRecord_self (s := s.cutAttempt l) hr f fun _ => rfl
  have hchange : ((((s.cutAttempt l).onRecord t f).endRecord t .cancelled .byHost none).markResync l
      (unsureAfterCut (s.lane l) r)).setMode l .halt = cancelledAtHalt s l t r := by
    rw [endRecord_eq_ended hunsure]
    change ((((s.onRecord t f).ended t (r.payloadChain ++ r.replyChain) (Record.finish .cancelled .byHost none s.time)).withLane l
      (cutLane (s.lane l))).markResync l (unsureAfterCut (s.lane l) r)).setMode l .halt = _
    rw [ended_onRecord s t _ (f := f) fun _ => rfl]
    simp only [State.markResync, State.setMode, onLane_eq_withLane, lane_withLane_self, withLane_withLane]
    rfl
  rw [← grantScan_stopBusy_of_halt (by rw [cancelledAtHalt, lane_withLane_self]), ← hchange]
  simp only [State.haltAbort, hr, hmark, if_true]
  rfl

/-- The halt-abort of an unmarked record, field by field. -/
theorem haltAbort_of_unmarked (hr : s.record? t = some r) (hmark : r.cancelMark = false) :
    s.haltAbort l t = (atRest (requeuedAtHalt s l t r).grantScan l).raise ⟨.idle, some l, t, .none, none⟩ := by
  let f := withUncertain (unsureAfterCut (s.lane l) r)
  have hchange : (((((s.cutAttempt l).onRecord t f).returnBlocks r.replyChain).onRecord t requeuedRecord).requeue l t
      r.urgent).setMode l .halt = requeuedAtHalt s l t r := by
    have hurgent : ∀ q, ((((s.cutAttempt l).onRecord t f).returnBlocks r.replyChain).onRecord t
        requeuedRecord).afterUrgent t q = s.afterUrgent t q := by
      have hsame : (((s.cutAttempt l).onRecord t f).returnBlocks r.replyChain).isUrgent = s.isUrgent :=
        isUrgent_onRecord (s.cutAttempt l) t (f := f) (fun _ => rfl) fun _ => rfl
      intro q
      rw [State.afterUrgent, isUrgent_onRecord _ t (f := requeuedRecord) (fun _ => rfl) fun _ => rfl, hsame,
        State.afterUrgent]
    simp only [State.requeue, hurgent]
    change (((((s.returnBlocks r.replyChain).onRecord t f).onRecord t requeuedRecord).withLane l (cutLane (s.lane l))).onLane l
      fun x => { x with queue := if r.urgent then t :: x.queue else s.afterUrgent t x.queue }).setMode l .halt = _
    rw [onRecord_onRecord _ t (f := f) fun _ => rfl]
    simp only [State.setMode, onLane_eq_withLane, lane_withLane_self, withLane_withLane]
    rfl
  rw [← grantScan_stopBusy_of_halt (by rw [requeuedAtHalt, lane_withLane_self]), ← hchange]
  simp only [State.haltAbort, hr, hmark, Bool.false_eq_true, if_false]
  rfl

end

/-! ### LANE_MODE to HALT (R69, R72) -/

section
variable {s : State} {l : LaneId}

theorem runLaneModeHalt_of_halt (h : (s.lane l).mode = .halt) :
    runLaneModeHalt [0x11, BitVec.ofNat 8 l.val, 0x02] s = (modeReply .halt 0, s) := by
  simp only [runLaneModeHalt, laneModeArgs_of_target (target := 0x02) (by decide), h]

/-- From HOLD and PASS the lane enters HALT and the aborted ticket is answered, 0 for none. -/
theorem runLaneModeHalt_of_ne_halt (h : (s.lane l).mode ≠ .halt) :
    runLaneModeHalt [0x11, BitVec.ofNat 8 l.val, 0x02] s = (modeReply .halt ((s.lane l).active.getD 0), s.enterHalt l) := by
  simp only [runLaneModeHalt, laneModeArgs_of_target (target := 0x02) (by decide)]
  cases hm : (s.lane l).mode with
  | halt => exact absurd hm h
  | hold => rfl
  | pass => rfl

theorem enterHalt_of_none (h : (s.lane l).active = none) : s.enterHalt l = (s.setMode l .halt).leaveWait l := by
  rw [State.enterHalt, h]

theorem enterHalt_of_some {t : Ticket} (h : (s.lane l).active = some t) : s.enterHalt l = s.haltAbort l t := by
  rw [State.enterHalt, h]

end

/-- A frame in reception that is expected becomes unexpected, every other receiver stays (R126). -/
theorem unexpect_frame (f : RxFrame) : (Receiver.frame f).unexpect =
    .frame { f with answer := if f.answer = .expected then .unexpected else f.answer } := by
  rw [Receiver.unexpect]
  by_cases h : f.answer = .expected <;> simp [h]

/-- Settles O28: without an active message along the phases, with one along its mark. -/
theorem laneModeToHaltAborts : Obligations.LaneModeToHaltAborts := by
  intro s tag l rest h ok x
  refine ⟨fun hhalt => ?_, fun hne hactive => ?_, fun t r urgents normals hne hactive hr hq hu hn => ?_⟩
  · exact exec_laneModeHalt_of_run h (runLaneModeHalt_of_halt (s := s.taken rest) hhalt)
  · have hrun := runLaneModeHalt_of_ne_halt (s := s.taken rest) hne
    rw [lane_taken, hactive, enterHalt_of_none (s := s.taken rest) hactive] at hrun
    refine ⟨fun htime => ?_, fun hspace => ?_, fun htime hspace => ?_⟩
    · rw [leave_of_waitTime .halt (s := s.taken rest) htime] at hrun
      exact exec_laneModeHalt_of_run h hrun
    · rw [leave_of_waitSpace .halt (s := s.taken rest) hspace] at hrun
      exact exec_laneModeHalt_of_run h hrun
    · rw [leave_of_not_waiting .halt (s := s.taken rest) htime hspace] at hrun
      exact exec_laneModeHalt_of_run h hrun
  · intro unsure cut rested
    have hrun := runLaneModeHalt_of_ne_halt (s := s.taken rest) hne
    rw [lane_taken, hactive, enterHalt_of_some (s := s.taken rest) hactive] at hrun
    have hcut : { cutLane x with mode := .halt } = cut := by
      simp only [cutLane, cut]
      cases x.port.rx with
      | frame f => rw [unexpect_frame]
      | hunting => rfl
      | header c gap => rfl
      | discarding => rfl
    refine ⟨fun hmark => ?_, fun hmark => ?_⟩
    · rw [haltAbort_of_unmarked (s := s.taken rest) hr hmark] at hrun
      have hback : s.afterUrgent t x.queue = urgents ++ t :: normals := by rw [hq, afterUrgent_eq hu hn]
      rw [exec_laneModeHalt_of_run h hrun, ← hcut, ← hback]
      rfl
    · rw [haltAbort_of_marked (s := s.taken rest) hr hmark] at hrun
      rw [exec_laneModeHalt_of_run h hrun, ← hcut]
      rfl

end Sys2Proof.Proofs.LaneModes
end

section
/-! PROOFS. The delivery cycle: frames, timers, misses, and the answers that do not complete a message. -/

namespace Sys2Proof.Proofs.DeliveryCycle

-- One theorem at a time: each elaboration thread takes 1 GiB of the check's memory limit.
set_option Elab.async false

open Sys2Proof Sys2Proof.Machine Sys2Proof.Proofs.Messages Sys2Proof.Proofs.LaneQueues Sys2Proof.Proofs.LaneModes

/-! ### Timers of a lane (R82, R134, R135) -/

section
variable (s : State) (l : LaneId)

theorem backoffDue_iff : s.backoffDue l = true ↔ (s.lane l).phase = .backoff ∧ (s.lane l).backoffTimer = some 0 := by
  simp [State.backoffDue]

theorem dropBreakDue_iff :
    s.dropBreakDue l = true ↔ (s.lane l).phase = .resetting ∧ (s.lane l).port.breakTimer = some 0 := by
  simp [State.dropBreakDue]

theorem dropRecoveryDue_iff :
    s.dropRecoveryDue l = true ↔ (s.lane l).phase = .resetting ∧ (s.lane l).port.recoveryTimer = some 0 := by
  simp [State.dropRecoveryDue]

theorem ackDue_iff : s.ackDue l = true ↔ (s.lane l).phase = .awaitAnswer ∧ (s.lane l).ackTimer = some 0 := by
  simp [State.ackDue]

end

section
variable {s : State} {l : LaneId}

/-- Outside PASS a lane that comes to rest raises IDLE (R75). -/
theorem comesToRest_of_ne_pass (h : (s.lane l).mode ≠ .pass) (t : Ticket) :
    s.comesToRest l t = s.raise ⟨.idle, some l, t, .none, none⟩ := if_neg h

/-- In PASS it judges its head (R75). -/
theorem comesToRest_of_pass (h : (s.lane l).mode = .pass) (t : Ticket) : s.comesToRest l t = s.judgeHead l := if_pos h

/-- The end of a drop reset, field by field (R135). -/
theorem dropResetEnd_of_due (h : s.dropRecoveryDue l = true) :
    s.dropResetEnd l = (s.withLane l
      { s.lane l with seq := false, resync := true, active := none, phase := .idle,
                      port := { (s.lane l).port with rx := .hunting, recoveryTimer := none } }).comesToRest l 0 := by
  rw [State.dropResetEnd, if_pos h, stopBusy_eq, onLane_eq_withLane, lane_withLane_self, withLane_withLane]

end

/-- Settles O51: each timer at its expiry and out of turn; the end of a drop reset brings the lane to rest. -/
theorem laneTimersExpire : Obligations.LaneTimersExpire := by
  intro s l x
  refine ⟨fun hp ht => ?_, fun hnot => ?_, fun hp ht => ?_, fun hnot => ?_, fun hp ht => ?_, fun hnot => ?_⟩
  · exact congrArg Host.Outcome.next (if_pos ((backoffDue_iff s l).2 ⟨hp, ht⟩))
  · exact congrArg Host.Outcome.next (if_neg (mt (backoffDue_iff s l).1 (not_and_or.2 hnot)))
  · exact congrArg Host.Outcome.next (if_pos ((dropBreakDue_iff s l).2 ⟨hp, ht⟩))
  · exact congrArg Host.Outcome.next (if_neg (mt (dropBreakDue_iff s l).1 (not_and_or.2 hnot)))
  · intro rested
    have hend : s.dropResetEnd l = rested.comesToRest l 0 := dropResetEnd_of_due ((dropRecoveryDue_iff s l).2 ⟨hp, ht⟩)
    have hmode : (rested.lane l).mode = x.mode := by rw [lane_withLane_self]
    exact ⟨fun hm => congrArg Host.Outcome.next (hend.trans (comesToRest_of_ne_pass (hmode ▸ hm) 0)),
      fun hm => congrArg Host.Outcome.next (hend.trans (comesToRest_of_pass (hmode.trans hm) 0))⟩
  · exact congrArg Host.Outcome.next (if_neg (mt (dropRecoveryDue_iff s l).1 (not_and_or.2 hnot)))

/-! ### Frames of a lane (R77, R78, R105, R112, R115, R196) -/

/-- A lane may start its frame in WAIT_SLOT, unpaced or with a credit, for a live record (R77, R105). -/
theorem startDue_iff (s : State) (l : LaneId) :
    s.startDue l = true ↔ (s.lane l).phase = .waitSlot ∧
      ((s.lane l).config.pacingNum = 0 ∨ 1 ≤ (s.lane l).slots.credits) ∧
      ∃ r, (s.lane l).active.bind s.record? = some r := by
  simp [State.startDue, Lane.paced, Option.isSome_iff_exists, and_assoc]

/-- The control byte of R196 as a number. -/
theorem dropControl_eq (kind : FrameKind) (seq resync replyWanted : Bool) :
    dropControl kind seq resync replyWanted = BitVec.ofNat 8 ((if kind = .data then 1 + 16 * resync.toNat else 2) +
      8 * seq.toNat + 32 * replyWanted.toNat) := by
  cases kind <;> revert seq resync replyWanted <;> decide

/-- The payload of the frame that a lane has ready: an NREQ carries none (R115). -/
def readyPayload (x : Lane) (r : Record) : List Byte := if x.ready = .data then r.payload else []

/-- The frame of R196 that a lane starts for a record. -/
theorem frameFor_eq (x : Lane) (r : Record) :
    frameFor x r = dropFrame (dropControl x.ready x.seq x.resync r.replyWanted) (readyPayload x r) := by
  unfold frameFor readyPayload
  cases x.ready <;> rfl

/-- A lane whose frame for `r` has started: in SENDING, and a paced lane has spent a credit (R78, R105). -/
def startedLane (x : Lane) (r : Record) : Lane :=
  { x with phase := .sending
           slots := if x.config.pacingNum = 0 then x.slots else { x.slots with credits := x.slots.credits - 1 }
           port := { x.port with tx := .sending (frameFor x r) } }

theorem startedLane_eq (x : Lane) (r : Record) :
    ({ x with phase := .sending, slots := if x.paced then { x.slots with credits := x.slots.credits - 1 } else x.slots,
              port := { x.port with tx := .sending (frameFor x r) } } : Lane) = startedLane x r := by
  by_cases h : x.config.pacingNum = 0 <;> simp [startedLane, Lane.paced, h]

/-- A frame that starts: the record's sends rise, and the lane sends. -/
theorem startFrame_of_due {s : State} {l : LaneId} {t : Ticket} {r : Record} (ha : (s.lane l).active = some t)
    (hr : s.record? t = some r) (hp : (s.lane l).phase = .waitSlot)
    (hc : (s.lane l).config.pacingNum = 0 ∨ 1 ≤ (s.lane l).slots.credits) :
    s.startFrame l = (s.onRecord t fun y => { y with sends := min 255 (y.sends + 1) }).withLane l
      (startedLane (s.lane l) r) := by
  have hbind : (s.lane l).active.bind s.record? = some r := by rw [ha]; exact hr
  rw [State.startFrame, if_pos ((startDue_iff s l).2 ⟨hp, hc, r, hbind⟩)]
  simp only [hbind, (record?_some hr).2, satInc_eq_min]
  exact congrArg (State.withLane _ l) (startedLane_eq _ r)

theorem startFrame_of_not_due {s : State} {l : LaneId}
    (h : (s.lane l).phase ≠ .waitSlot ∨ ((s.lane l).config.pacingNum ≠ 0 ∧ (s.lane l).slots.credits = 0)) :
    s.startFrame l = s := by
  rw [State.startFrame, if_neg]
  rw [startDue_iff]
  rintro ⟨hp, hc, -⟩
  rcases h with h | ⟨hn, h0⟩
  · exact h hp
  · omega

theorem frameSent_of_sending {s : State} {l : LaneId} (h : (s.lane l).phase = .sending) :
    s.frameSent l = s.withLane l { s.lane l with phase := .awaitAnswer, ackTimer := some (100 * (s.lane l).config.ackTimeout),
                                                 port := { (s.lane l).port with tx := .idle } } := by
  rw [State.frameSent, if_pos h, State.setPhase, State.onPort, State.startAck, onLane_onLane, onLane_onLane]
  rfl

/-! ### The characters of a frame on its line (R112) -/

/-- A bit time lasts from its start to the start of the next. -/
theorem bitTime_eq {rate periods n : Nat} (h1 : n * 24000000 ≤ periods * rate) (h2 : periods * rate < (n + 1) * 24000000) :
    bitTime rate periods = n := by
  unfold bitTime Config.clockHz
  omega

/-- The levels of one character: start bit, eight data bits, stop bit. -/
theorem charLevels_getD (b : Byte) {j : Nat} (hj : j < 10) :
    (charLevels b).getD j true = if j = 0 then false else if j = 9 then true else b.getLsbD (j - 1) := by
  revert b
  interval_cases j <;> intro b <;> rfl

/-- A line that sends a frame carries its characters back to back and is high behind them. -/
theorem sendsFrame_frameHigh (rate : Nat) (frame : List Byte) : SendsFrame rate frame (frameHigh rate frame) := by
  refine ⟨fun i j periods b hi hj h1 h2 => ?_, fun periods h => ?_⟩
  · rw [frameHigh, bitTime_eq h1 h2, frameLevels_getD hi hj, charLevels_getD b hj]
  · have hend : (frameLevels frame).length ≤ bitTime rate periods := by
      rw [frameLevels_length, bitTime, Config.clockHz]
      omega
    rw [frameHigh, List.getD_eq_default _ _ hend]

/-- Settles O49: the start, the end and the levels of a frame, each from its own lemma. -/
theorem frameStartsAndEnds : Obligations.FrameStartsAndEnds := by
  intro s l x
  refine ⟨fun t r ha hr hp hc => ?_, fun hnot => ?_, fun hp => ?_, fun hp => ?_, fun frame htx => ?_, fun htx periods => ?_,
    fun htx periods => ?_⟩
  · intro payload control covered
    have hstart := startFrame_of_due ha hr hp hc
    rw [startedLane, frameFor_eq, dropControl_eq] at hstart
    exact congrArg Host.Outcome.next hstart
  · exact congrArg Host.Outcome.next (startFrame_of_not_due hnot)
  · exact congrArg Host.Outcome.next (frameSent_of_sending hp)
  · exact congrArg Host.Outcome.next (if_neg hp)
  · have hlevel : s.dtxHigh l = frameHigh x.bitRate frame := by
      funext periods
      have htx' : (s.lane l).port.tx = .sending frame := htx
      simp only [State.dtxHigh, htx']
      rfl
    rw [hlevel]
    exact sendsFrame_frameHigh _ frame
  · have htx' : (s.lane l).port.tx = .idle := htx
    simp only [State.dtxHigh, htx']
  · have htx' : (s.lane l).port.tx = .breaking := htx
    simp only [State.dtxHigh, htx']

/-! ### A record that ends and its lane (R16, R29, R75, R86, R87) -/

/-- `s` after the record `r`, ticket `t`, has ended, its blocks have returned and the scan has been made (R16). -/
def endedAndScanned (s : State) (t : Ticket) (r : Record) (st : RecordState) (cause : Cause) (reject : Option Byte) : State :=
  (s.ended t (r.payloadChain ++ r.replyChain) (Record.finish st cause reject s.time)).grantScan

/-- A lane without an entry in the space waiting list is left by the scan. -/
theorem lane_endedAndScanned {s : State} {l : LaneId} (h : s.isWaiting l = false) (t : Ticket) (r : Record) (st : RecordState)
    (cause : Cause) (reject : Option Byte) : (endedAndScanned s t r st cause reject).lane l = s.lane l :=
  lane_grantScan_of_not_waiting (s := s.ended t _ _) h

/-- A lane whose message has failed, in mode `m`: the resync mark, the count and the lane at rest (R75, R86, R87). -/
def failedLane (x : Lane) (unsure : Bool) (m : Mode) : Lane :=
  { x with resync := x.resync || unsure, mode := m, active := none, phase := .idle
           counters := { x.counters with failed := min 65535 (x.counters.failed + 1) } }

/-- `s` after the record `r` of lane `l`, ticket `t`, has failed and FAILED has been raised, the lane in mode `m` (R87). -/
def failedAndRaised (s : State) (l : LaneId) (t : Ticket) (r : Record) (cause : Cause) (reject : Option Byte) (unsure : Bool)
    (m : Mode) : State :=
  ((endedAndScanned s t r .failed cause reject).withLane l
      (failedLane ((endedAndScanned s t r .failed cause reject).lane l) unsure m)).raise
    ⟨.failed, some l, t, .cause cause, reject⟩

theorem mode_failedAndRaised (s : State) (l : LaneId) (t : Ticket) (r : Record) (cause : Cause) (reject : Option Byte)
    (unsure : Bool) (m : Mode) : ((failedAndRaised s l t r cause reject unsure m).lane l).mode = m := by
  rw [failedAndRaised, lane_raise, lane_withLane_self]
  rfl

/-- A failure that halts its lane raises FAILED, HALTED and IDLE (R87, R75). -/
theorem failedWith_of_halts (s : State) (l : LaneId) (t : Ticket) (r : Record) (cause : Cause) (reject : Option Byte)
    (unsure : Bool) :
    s.failedWith l t r cause reject unsure true =
      ((failedAndRaised s l t r cause reject unsure .halt).raise ⟨.halted, some l, t, .cause cause, reject⟩).raise
        ⟨.idle, some l, t, .none, none⟩ := by
  have hne : (((failedAndRaised s l t r cause reject unsure .halt).raise ⟨.halted, some l, t, .cause cause, reject⟩).lane
      l).mode ≠ .pass := by
    rw [lane_raise, mode_failedAndRaised]; decide
  exact comesToRest_of_ne_pass hne t

/-- A failure that does not raises FAILED, and the lane comes to rest in its mode (R87, R75). -/
theorem failedWith_of_skips (s : State) (l : LaneId) (t : Ticket) (r : Record) (cause : Cause) (reject : Option Byte)
    (unsure : Bool) :
    s.failedWith l t r cause reject unsure false =
      (failedAndRaised s l t r cause reject unsure ((endedAndScanned s t r .failed cause reject).lane l).mode).comesToRest l t :=
  rfl

/-- A lane whose message has ended by its mark (R75, R86, R89). -/
def cancelledLane (x : Lane) (unsure : Bool) : Lane :=
  { x with resync := x.resync || unsure, backoffTimer := none, active := none, phase := .idle }

theorem cancelledBy_eq (s : State) (l : LaneId) (t : Ticket) (r : Record) (unsure : Bool) :
    s.cancelledBy l t r unsure =
      ((endedAndScanned s t r .cancelled .byHost none).withLane l
        (cancelledLane ((endedAndScanned s t r .cancelled .byHost none).lane l) unsure)).comesToRest l t := rfl

/-- An update of the failing record that its end overwrites does not show (R29). -/
theorem failedWith_onRecord (s : State) (l : LaneId) (t : Ticket) (r : Record) (cause : Cause) (reject : Option Byte)
    (unsure halts : Bool) {f : Record → Record} (hf : ∀ y, (f y).ticket = y.ticket)
    (hend : ∀ y, Record.finish .failed cause reject s.time (f y) = Record.finish .failed cause reject s.time y) :
    (s.onRecord t f).failedWith l t r cause reject unsure halts = s.failedWith l t r cause reject unsure halts := by
  have hended : (s.onRecord t f).ended t (r.payloadChain ++ r.replyChain) (Record.finish .failed cause reject s.time) =
      s.ended t (r.payloadChain ++ r.replyChain) (Record.finish .failed cause reject s.time) := by
    rw [ended_onRecord s t _ hf, funext hend]
  unfold State.failedWith
  rw [onRecord_time, hended]

/-! ### An ack timer that expires (R79, R85) -/

/-- `s` with a miss counted on its record `t`, and on lane `l`, which is `x` but for the count (R85). -/
def missCounted (s : State) (l : LaneId) (t : Ticket) (x : Lane) : State :=
  (s.onRecord t fun y => { y with misses := min 255 (y.misses + 1), uncertain := true }).withLane l
    { x with counters := { x.counters with missesTotal := min 65535 (x.counters.missesTotal + 1) } }

/-- A miss of a lane that stands as `x`: the mark, the retry limit, a retransmission (R85, R87, R89). -/
theorem missed_withLane (s : State) (l : LaneId) (t : Ticket) (r : Record) (ready : FrameKind) (x : Lane) :
    (s.withLane l x).missed l t r ready =
      if r.cancelMark then (missCounted s l t x).cancelledBy l t r true
      else if x.config.retryLimit < min 255 (r.misses + 1) then
        (missCounted s l t x).failedWith l t r .noAnswer none true (x.config.failurePolicy == .halt)
      else (missCounted s l t x).withLane l { (missCounted s l t x).lane l with phase := .waitSlot, ready := ready } := by
  have hcounted : missCounted (s.withLane l x) l t x = missCounted s l t x := withLane_withLane (s.onRecord t _) l x _
  rw [State.missed, lane_withLane_self, ← hcounted]
  rfl

/-- The expiry of an ack timer is a miss of the lane without its ack timer (R79, R85). -/
theorem ackExpiry_of_due {s : State} {l : LaneId} {t : Ticket} {r : Record} (hdue : s.ackDue l = true)
    (ha : (s.lane l).active = some t) (hr : s.record? t = some r) :
    s.ackExpiry l = (s.withLane l { s.lane l with ackTimer := none }).missed l t r .data := by
  rw [State.ackExpiry, if_pos hdue, onLane_eq_withLane]
  exact takeMiss_eq (s := s.withLane l { s.lane l with ackTimer := none }) (by rw [lane_withLane_self]; exact ha) hr false

/-- A lane at rest in mode `m` after a miss has ended its message, with its count of failures (R86). -/
def restedLane (x : Lane) (m : Mode) (failed : Nat) : Lane :=
  { x with mode := m, resync := true, active := none, phase := .idle, backoffTimer := none
           counters := { x.counters with failed := failed } }

theorem failedLane_eq_restedLane {x : Lane} (h : x.backoffTimer = none) (m : Mode) :
    failedLane x true m = restedLane x m (min 65535 (x.counters.failed + 1)) := by
  simp only [failedLane, restedLane, h, Bool.or_true]

theorem cancelledLane_eq_restedLane (x : Lane) : cancelledLane x true = restedLane x x.mode x.counters.failed := by
  simp only [cancelledLane, restedLane, Bool.or_true]

/-- Settles O50, along the mark, the retry limit and the failure policy. -/
theorem ackTimeoutIsAMiss : Obligations.AckTimeoutIsAMiss := by
  intro s l t r x hp ht ha hr missed finished rest
  have hexec : exec (.ackTimeout l) s = .next (s.ackExpiry l) := rfl
  have hstep := ackExpiry_of_due ((ackDue_iff s l).2 ⟨hp, ht⟩) ha hr
  have hmissed : missCounted s l t { s.lane l with ackTimer := none } = missed := rfl
  have hlane : missed.lane l = { x with
      ackTimer := none, counters := { x.counters with missesTotal := min 65535 (x.counters.missesTotal + 1) } } :=
    lane_withLane_self _ _ _
  have hrest (u : State) (m : Mode) (n : Nat) : rest u m n = u.withLane l (restedLane (u.lane l) m n) := rfl
  rw [missed_withLane, hmissed] at hstep
  rw [hexec, hstep]
  refine ⟨fun hmark hlimit => ?_, fun hmark hlimit hback => ?_, fun hmark => ?_⟩
  · rw [if_neg (by simp [hmark]), if_neg (Nat.not_lt.2 hlimit)]
  · intro u hwait failed e
    have hu : u.lane l = missed.lane l := lane_endedAndScanned (s := missed) hwait t r .failed .noAnswer none
    have hfailed (m : Mode) : failedAndRaised missed l t r .noAnswer none true m = (rest u m failed).raise (e .failed) := by
      have hidle : (u.lane l).backoffTimer = none := by rw [hu, hlane]; exact hback
      have hcount : failed = min 65535 ((u.lane l).counters.failed + 1) := by rw [hu, hlane]
      rw [hrest, hcount, ← failedLane_eq_restedLane hidle]
      rfl
    have hskips : missed.failedWith l t r .noAnswer none true false =
        ((rest u x.mode failed).raise (e .failed)).comesToRest l t := by
      have hmode : (endedAndScanned missed t r .failed .noAnswer none).lane l = missed.lane l := hu
      rw [failedWith_of_skips, hmode, hlane, hfailed]
    have hmode (m : Mode) : (((rest u m failed).raise (e .failed)).lane l).mode = m := by
      rw [lane_raise, lane_withLane_self]
    rw [if_neg (by simp [hmark]), if_pos hlimit]
    refine ⟨fun hpolicy => ?_, fun hpolicy hne => ?_, fun hpolicy hpass => ?_⟩
    · have hhalts : ((s.lane l).config.failurePolicy == .halt) = true := beq_iff_eq.2 hpolicy
      rw [hhalts, failedWith_of_halts, hfailed]
    · have hhalts : ((s.lane l).config.failurePolicy == .halt) = false := beq_eq_false_iff_ne.2 (by rw [hpolicy]; decide)
      rw [hhalts, hskips, comesToRest_of_ne_pass (by rw [hmode]; exact hne)]
    · have hhalts : ((s.lane l).config.failurePolicy == .halt) = false := beq_eq_false_iff_ne.2 (by rw [hpolicy]; decide)
      rw [hhalts, hskips, comesToRest_of_pass (by rw [hmode]; exact hpass)]
  · intro u hwait
    have hu : u.lane l = missed.lane l := lane_endedAndScanned (s := missed) hwait t r .cancelled .byHost none
    have hcancelled : missed.cancelledBy l t r true = (rest u x.mode x.counters.failed).comesToRest l t := by
      have hmode : x.mode = (u.lane l).mode := by rw [hu, hlane]
      have hcount : x.counters.failed = (u.lane l).counters.failed := by rw [hu, hlane]
      rw [hrest, hmode, hcount, ← cancelledLane_eq_restedLane, cancelledBy_eq]
      rfl
    have hmode : ((rest u x.mode x.counters.failed).lane l).mode = x.mode := by rw [lane_withLane_self]
    rw [if_pos hmark, hcancelled]
    exact ⟨fun hne => by rw [comesToRest_of_ne_pass (by rw [hmode]; exact hne)],
      fun hpass => by rw [comesToRest_of_pass (by rw [hmode]; exact hpass)]⟩

/-! ### An undamaged frame from the node (R114, R118, R124, R130) -/

/-- The kind of a frame from the node is the low three bits of its control byte (R114). -/
theorem kind_bits (control : Byte) : (control &&& 7#8).toNat = control.toNat % 8 := by
  rw [BitVec.toNat_and]
  exact Nat.and_two_pow_sub_one_eq_mod _ 3

theorem nodeKind_of_busy {control : Byte} (h : control.toNat % 8 = 5) : nodeKind control = .busy := by
  simp only [nodeKind, kind_bits, h]

theorem nodeKind_of_reject {control : Byte} (h : control.toNat % 8 = 6) : nodeKind control = .reject := by
  simp only [nodeKind, kind_bits, h]

theorem nodeKind_of_reply {control : Byte} (h : control.toNat % 8 = 7) : nodeKind control = .reply := by
  simp only [nodeKind, kind_bits, h]

/-- `s` with the receiver of lane `l` hunting, and the lane otherwise as it is. -/
theorem hunt_eq (s : State) (l : LaneId) :
    s.hunt l = s.withLane l { s.lane l with port := { (s.lane l).port with rx := .hunting } } := rfl

/-- A record with the bytes of a matching REPLY in its reservation (R130). -/
def storedRecord (bytes : List Byte) (x : Record) : Record :=
  { x with reply :=
      if x.replyWanted then bytes.take (x.replyLimit.getD 0) ++ x.reply.drop (min bytes.length (x.replyLimit.getD 0))
      else x.reply }

section
variable {s : State} {l : LaneId} {f : RxFrame} {bytes : List Byte}

/-- Only an expected REPLY with matching seq leaves bytes in the reservation (R130). -/
theorem storeReply_of_other
    (h : f.answer ≠ .expected ∨ nodeKind f.control ≠ .reply ∨ answerSeq f.control ≠ (s.lane l).seq) :
    s.storeReply l f bytes = s := by
  rw [State.storeReply, if_neg]
  rintro ⟨h1, h2, h3⟩
  rcases h with h | h | h
  · exact h h1
  · exact h h2
  · exact h h3

theorem storeReply_of_reply {t : Ticket} (ha : (s.lane l).active = some t) (he : f.answer = .expected)
    (hk : nodeKind f.control = .reply) (hs : answerSeq f.control = (s.lane l).seq) :
    s.storeReply l f bytes = s.onRecord t (storedRecord bytes) := by
  rw [State.storeReply, if_pos ⟨he, hk, hs⟩, ha]
  refine congrArg (fun g => s.onRecord t g) (funext fun x => ?_)
  unfold storedRecord
  split <;> rfl

/-- An undamaged frame at its end: its reply bytes stored, the receiver hunting, the frame judged by its class (R118). -/
theorem dropFrameEnd_of_good {payload : List Byte} (hrx : (s.lane l).port.rx = .frame f) (hrate : f.rateChanged = false)
    (hlen : payload.length = f.length) :
    let judged := s.dropFrameEnd l (payload ++ bytesOf 2 (crcMore f.check payload).toNat)
    let heard := (s.storeReply l f payload).hunt l
    (f.answer = .expected → judged = heard.judgeAnswer l f.control payload) ∧
    (f.answer = .unexpected → judged = heard.countStray l) ∧
    (f.answer = .report → judged = heard.arriveReport l payload) := by
  have htake : (payload ++ bytesOf 2 (crcMore f.check payload).toNat).take f.length = payload := List.take_left' hlen
  have hdrop : (payload ++ bytesOf 2 (crcMore f.check payload).toNat).drop f.length = checkBytes (crcMore f.check payload) :=
    List.drop_left' hlen
  have hcount : (payload ++ bytesOf 2 (crcMore f.check payload).toNat).length = f.length + 2 := by simp [hlen]
  simp only [State.dropFrameEnd, hrx, hcount, if_true, htake, hdrop, hrate, Bool.not_false, beq_self_eq_true, Bool.and_self]
  refine ⟨fun h => ?_, fun h => ?_, fun h => ?_⟩ <;> rw [h]

end

section
variable {s : State} {l : LaneId} {t : Ticket} {r : Record} {control : Byte} {payload : List Byte}

/-- A wrong seq is stray and starts the ack timer afresh (R125). -/
theorem judgeAnswer_of_wrong_seq (h : answerSeq control ≠ (s.lane l).seq) :
    s.judgeAnswer l control payload = (s.countStray l).startAck l := by
  rw [State.judgeAnswer, if_neg h]

/-- An answer with matching seq to a live record, by its kind (R124 steps 3 to 6). -/
theorem judgeAnswer_of_seq (h : answerSeq control = (s.lane l).seq) (ha : (s.lane l).active = some t)
    (hr : s.record? t = some r) :
    (nodeKind control = .busy → s.judgeAnswer l control payload = s.takeBusy l t r) ∧
    (nodeKind control = .reject → s.judgeAnswer l control payload = s.takeReject l t (payload.headD 0)) ∧
    (nodeKind control = .reply → r.replyWanted = true → r.replyLimit.getD 0 < payload.length →
      s.judgeAnswer l control payload = s.takeOversize l t r) := by
  simp only [State.judgeAnswer, if_pos h, ha, hr]
  refine ⟨fun hk => ?_, fun hk => ?_, fun hk hw hlong => ?_⟩
  · rw [hk]
  · rw [hk]
  · rw [hk]
    simp only [hw, if_true, if_neg (Nat.not_le.2 hlong)]

/-! ### BUSY, REJECT and an oversize REPLY (R81, R83, R84, R89) -/

/-- `s` with a BUSY counted on its record `t`, and on lane `l`, which is `x` but for the counts (R81). -/
def busyCounted (s : State) (l : LaneId) (t : Ticket) (x : Lane) : State :=
  (s.onRecord t fun y => { y with busies := min 255 (y.busies + 1), uncertain := false }).withLane l
    { x with counters := { x.counters with busiesTotal := min 65535 (x.counters.busiesTotal + 1) }
             busyCount := x.busyCount + 1 }

theorem onRecord_withLane (s : State) (l : LaneId) (x : Lane) (t : Ticket) (f : Record → Record) :
    (s.withLane l x).onRecord t f = (s.onRecord t f).withLane l x := rfl

/-- A BUSY of a lane that stands as `x`: the mark, the busy limit, the backoff (R81, R87, R89). -/
theorem takeBusy_withLane (hr : s.record? t = some r) (x : Lane) :
    (s.withLane l x).takeBusy l t r =
      if r.cancelMark then (busyCounted s l t x).cancelledBy l t r false
      else if x.config.busyLimit ≠ 0 ∧ x.config.busyLimit < x.busyCount + 1 then
        (busyCounted s l t x).failedWith l t r .busyLimit none false (x.config.failurePolicy == .halt)
      else (busyCounted s l t x).withLane l
        { (busyCounted s l t x).lane l with phase := .backoff, backoffTimer := some (100 * x.config.busyBackoff) } := by
  let f : Record → Record := fun y => { y with busies := min 255 (y.busies + 1), uncertain := false }
  have hcounted : (((s.withLane l x).onCounters l fun c => { c with busiesTotal := satInc 65535 c.busiesTotal }).onRecord t
      (fun y => { y with busies := satInc 255 y.busies, uncertain := false })).onLane l
      (fun x => { x with busyCount := x.busyCount + 1 }) = busyCounted s l t x := by
    simp only [satInc_eq_min, State.onCounters, onLane_eq_withLane, lane_withLane_self, onRecord_withLane, withLane_withLane]
    rfl
  have hr' : (busyCounted s l t x).record? t = some (f r) := record?_onRecord_self hr f fun _ => rfl
  have hconfig : ((busyCounted s l t x).lane l).config = x.config := by rw [busyCounted, lane_withLane_self]
  simp only [State.takeBusy, hcounted, lane_withLane_self]
  rw [cancelActive_eq hr', failRecord_eq hr', onLane_eq_withLane, hconfig]
  rfl

/-- A REJECT with matching seq fails the record and halts the lane, marked or not (R83, R87). -/
theorem takeReject_eq (hr : s.record? t = some r) (code : Byte) :
    s.takeReject l t code =
      (s.onRecord t (withUncertain false)).failedWith l t r .rejected (some code) false true :=
  failRecord_eq (record?_onRecord_self hr (withUncertain false) fun _ => rfl) .rejected (some code) false

/-- An oversize REPLY toggles seq, fails the record and halts the lane (R84, R87). -/
theorem takeOversize_eq (hr : s.record? t = some r) :
    s.takeOversize l t r =
      (s.withLane l { s.lane l with seq := !(s.lane l).seq }).failedWith l t r .oversizeReply none r.uncertain true := by
  rw [State.takeOversize, onLane_eq_withLane]
  exact failRecord_eq (s := s.withLane l _) hr .oversizeReply none r.uncertain

end

/-- Settles O55: the frame ends undamaged, its class and seq are judged, and the kind decides. -/
theorem otherAnswersAreJudged : Obligations.OtherAnswersAreJudged := by
  intro s l f payload x hrx hrate hlen answer heard stray
  obtain ⟨hexpected, hunexpected, -⟩ := dropFrameEnd_of_good (s := s) (l := l) hrx hrate hlen
  have hstored (h : f.answer ≠ .expected ∨ nodeKind f.control ≠ .reply ∨ answerSeq f.control ≠ x.seq) :
      (s.storeReply l f payload).hunt l = s.withLane l heard := by rw [storeReply_of_other h, hunt_eq]
  refine ⟨fun hclass => ?_, fun hclass hseq => ?_, fun t r ha hr hclass hseq => ?_⟩
  · have hnext := hunexpected hclass
    rw [hstored (.inl (by rw [hclass]; decide)), State.countStray, State.onCounters, onLane_eq_withLane, lane_withLane_self,
      withLane_withLane, satInc_eq_min] at hnext
    exact congrArg Host.Outcome.next hnext
  · have hnext := hexpected hclass
    rw [hstored (.inr (.inr hseq)), judgeAnswer_of_wrong_seq (by rw [lane_withLane_self]; exact hseq), State.startAck,
      State.countStray, State.onCounters, onLane_onLane, onLane_eq_withLane, lane_withLane_self, withLane_withLane,
      satInc_eq_min] at hnext
    exact congrArg Host.Outcome.next hnext
  · intro sure
    have hnext := hexpected hclass
    have hheard : ((s.withLane l heard).lane l) = heard := lane_withLane_self _ _ _
    have hjudged := judgeAnswer_of_seq (s := s.withLane l heard) (l := l) (control := f.control) (payload := payload)
      (by rw [hheard]; exact hseq) (by rw [hheard]; exact ha) hr
    obtain ⟨hbusy, hreject, -⟩ := hjudged
    refine ⟨fun hkind => ?_, fun code hkind hcode => ?_, fun hkind hw hlong => ?_⟩
    · have hk := nodeKind_of_busy hkind
      intro busied
      have hcounted : busyCounted s l t heard = busied := rfl
      rw [hstored (.inr (.inl (by rw [hk]; decide))), hbusy hk, takeBusy_withLane hr, hcounted] at hnext
      refine ⟨fun hmark hlimit => ?_, fun hmark hlimit hover => ?_, fun hmark => ?_⟩
      · rw [if_neg (by simp [hmark]), if_neg (fun ⟨hne, hover⟩ => hne (hlimit.resolve_right (Nat.not_le.2 hover)))] at hnext
        exact congrArg Host.Outcome.next hnext
      · rw [if_neg (by simp [hmark]), if_pos ⟨hlimit, hover⟩] at hnext
        exact congrArg Host.Outcome.next hnext
      · rw [if_pos hmark] at hnext
        exact congrArg Host.Outcome.next hnext
    · have hk := nodeKind_of_reject hkind
      have hfirst : payload.headD 0 = code := by rw [hcode]; rfl
      rw [hstored (.inr (.inl (by rw [hk]; decide))), hreject hk, hfirst, takeReject_eq (s := s.withLane l heard) hr] at hnext
      exact congrArg Host.Outcome.next hnext
    · have hk := nodeKind_of_reply hkind
      have hheld : (s.storeReply l f payload).hunt l = (s.withLane l heard).onRecord t (storedRecord payload) := by
        rw [storeReply_of_reply ha hclass hk hseq]
        rfl
      have hr' := record?_onRecord_self (s := s.withLane l heard) hr (storedRecord payload) fun _ => rfl
      obtain ⟨-, -, hoversize⟩ := judgeAnswer_of_seq (l := l) (control := f.control) (payload := payload)
        (by rw [lane_onRecord, hheard]; exact hseq) (by rw [lane_onRecord, hheard]; exact ha) hr'
      rw [hheld, hoversize hk hw (hlen ▸ hlong), takeOversize_eq hr', lane_onRecord, hheard] at hnext
      have hbytes := failedWith_onRecord (s.withLane l { heard with seq := !x.seq }) l t r .oversizeReply none r.uncertain true
        (f := storedRecord payload) (fun _ => rfl) fun _ => rfl
      rw [← onRecord_withLane, withLane_withLane] at hnext
      exact congrArg Host.Outcome.next (hnext.trans hbytes)

end Sys2Proof.Proofs.DeliveryCycle
end

section
/-! PROOFS. The advance of part time: the due steps as their own commands, then one count of everything. -/

namespace Sys2Proof.Proofs.Pacing

-- One theorem at a time: each elaboration thread takes 1 GiB of the check's memory limit.
set_option Elab.async false

open Sys2Proof Sys2Proof.Machine

/-! ### Commands executed one after the other -/

theorem runAll_append {cs : List Instr} {s u : State} (h : runAll cs s = .next u) (ds : List Instr) :
    runAll (cs ++ ds) s = runAll ds u := by
  induction cs generalizing s with
  | nil => rw [← Host.Outcome.next.inj h, List.nil_append]
  | cons c cs ih =>
    rw [runAll] at h
    rw [List.cons_append, runAll]
    split at h
    · exact ih h
    · cases h
    · cases h

/-- The commands of several lanes in turn are the lanes' operations in turn. -/
theorem runAll_flatMap {cs : LaneId → List Instr} {g : State → LaneId → State}
    (h : ∀ s l, runAll (cs l) s = .next (g s l)) (ls : List LaneId) (s : State) :
    runAll (ls.flatMap cs) s = .next (ls.foldl g s) := by
  induction ls generalizing s with
  | nil => rfl
  | cons l ls ih => rw [List.flatMap_cons, runAll_append (h s l), ih, List.foldl_cons]

/-- One command per lane. -/
theorem runAll_map {c : LaneId → Instr} {g : State → LaneId → State} (h : ∀ s l, exec (c l) s = .next (g s l))
    (ls : List LaneId) (s : State) : runAll (ls.map c) s = .next (ls.foldl g s) := by
  rw [List.map_eq_flatMap]
  exact runAll_flatMap (fun s l => by rw [runAll, h]; rfl) ls s

/-! ### The due steps as commands (log 4) -/

/-- The six timed steps of one lane. -/
theorem runAll_settleLane (s : State) (l : LaneId) :
    runAll [.slotCreditEarned l, .ackTimeout l, .backoffExpiry l, .dropResetBreakEnd l, .dropResetEnd l,
      .releaseTimeReached l] s = .next (s.settleLane l) := rfl

/-- LINK_RESET stands among the commands exactly when HRX has been high (R174, log 9). -/
theorem runAll_seeHrx (h : HrxSample) (s : State) : runAll (if h.wasHigh then [.linkReset] else []) s = .next (s.seeHrx h) := by
  unfold State.seeHrx
  split <;> rfl

/-- Settling is the run of the due steps' own commands (log 4). -/
theorem runAll_tickCommands (p : TickSample) (s : State) : runAll (tickCommands p) s = .next (s.settle p) := by
  have hlanes := runAll_flatMap (g := fun s l => s.settleLane l) runAll_settleLane allLanes s
  have hlink (u : State) : runAll [.hostQuietExpiry, .controlFrameGap, .linkBreak] u =
      .next u.quietExpiry.controlGap.linkBreak := rfl
  have hcuts := runAll_map (c := fun l => .dropGapCut l ⟨[], (p.drx.get l).lead⟩)
    (g := fun s l => s.gapCut l ⟨[], (p.drx.get l).lead⟩) (fun _ _ => rfl) allLanes
  have hstarts := runAll_map (c := .transmissionStart) (g := fun s l => s.startFrame l) (fun _ _ => rfl) allLanes
  simp only [tickCommands, List.append_assoc]
  rw [runAll_append hlanes, runAll_append (hlink _), runAll_append (runAll_seeHrx _ _), runAll_append (hcuts _), hstarts]
  rfl

/-! ### One count of everything (R98, R99, R101, R103, R104, R116) -/

/-- The accumulator stays below D, or D is taken off and a credit is due (R104). -/
theorem slotStep_eq (num den : Nat) (g : SlotGenerator) :
    g.step num den = if num = 0 then g
      else if g.accumulator + num < den then { g with accumulator := g.accumulator + num }
      else { g with accumulator := g.accumulator + num - den, due := true } := by
  simp only [SlotGenerator.step, ← Nat.not_lt, ite_not]

theorem measure_eq_ticked (d : DrxSample) (rx : Receiver) : rx.measure d = rx.ticked d := by
  cases rx <;> cases h : d.tail <;> simp [Receiver.measure, Receiver.ticked, h]

theorem laneAdvance_eq_ticked (d : DrxSample) (x : Lane) : x.advance d = x.ticked d := by
  simp only [Lane.advance, Lane.ticked, countDown, slotStep_eq, measure_eq_ticked]

/-- A watch that begins anew counts this advance as its first. -/
theorem watch_eq (top : Nat) (holds restarted : Bool) (n : Nat) :
    watch top holds restarted n = if holds then min top (if restarted then 1 else n + 1) else 0 := by
  cases restarted <;> rfl

theorem inFrame_eq_midFrame (f : Framer) : f.inFrame = f.midFrame := by cases f <;> rfl

theorem linkAdvance_eq_ticked (p : TickSample) (k : ControlLink) : k.advance p = k.ticked p := by
  have hquiet : k.quietTimer.advance =
      match k.quietTimer with | .running n => .running (n - 1) | .off => .off | .stopped => .stopped := by
    cases k.quietTimer <;> rfl
  simp only [ControlLink.advance, hquiet, watch_eq, inFrame_eq_midFrame]
  rfl

/-- The advance itself, block by block. -/
theorem advance_eq (p : TickSample) (u : State) :
    u.advance p = { u with time := u.time + 1, lanes := Vector.zipWith Lane.ticked p.drx u.lanes, link := u.link.ticked p } := by
  have hlane : Lane.advance = Lane.ticked := funext₂ laneAdvance_eq_ticked
  rw [State.advance, hlane, linkAdvance_eq_ticked]

/-- While RESET_N is low part time stands (R181). -/
theorem exec_tick_of_low {s : State} (h : s.resetLow = true) (p : TickSample) : exec (.tick p) s = .next s :=
  congrArg Host.Outcome.next (if_pos h)

/-- While it is high the due steps come first (R54, R101, R105; log 4). -/
theorem exec_tick_of_high {s : State} (h : s.resetLow = false) (p : TickSample) :
    exec (.tick p) s = .next ((s.settle p).advance p) := congrArg Host.Outcome.next (if_neg (by simp [h]))

/-! ### The earned credit (R104) -/

theorem exec_slotCreditEarned_of_due {s : State} {l : LaneId} (h : (s.lane l).slots.due = true) :
    exec (.slotCreditEarned l) s =
      .next (s.withLane l { s.lane l with slots := (s.lane l).slots.earn (s.lane l).config.burst }) :=
  congrArg Host.Outcome.next ((if_pos h).trans (onLane_eq_withLane s l _))

theorem exec_slotCreditEarned_of_not_due {s : State} {l : LaneId} (h : (s.lane l).slots.due = false) :
    exec (.slotCreditEarned l) s = .next s := congrArg Host.Outcome.next (if_neg (by simp [State.creditDue, h]))

/-- Settles O44: TICK settles by the due steps' own commands and then advances; with nothing due only HRX's return is
left to settle. -/
theorem tickCountsEverythingOnce : Obligations.TickCountsEverythingOnce := by
  refine ⟨fun s p => ?_, fun s l => ⟨exec_slotCreditEarned_of_due, exec_slotCreditEarned_of_not_due⟩⟩
  intro counted
  have htick (hr : s.resetLow = false) : exec (.tick p) s = .next (counted (s.settle p)) :=
    (exec_tick_of_high hr p).trans (congrArg Host.Outcome.next (advance_eq p _))
  refine ⟨fun hr => exec_tick_of_low hr p, fun hr => ⟨s.settle p, runAll_tickCommands p s, htick hr⟩, fun hr hs hg => ?_⟩
  exact ⟨s.linkReset, rfl, by rw [htick hr, settle_of_settled hs hg]; rfl⟩

end Sys2Proof.Proofs.Pacing
end

section
/-! PROOFS. The drop line from the node: headers, cut and damaged frames, reports; LANE_RESEQ and DROP_RESET; and that
every command completes and leaves the queue of commands. -/

namespace Sys2Proof.Proofs.DropLine

-- One theorem at a time: each elaboration thread takes 1 GiB of the check's memory limit.
set_option Elab.async false

open Sys2Proof Sys2Proof.Machine Sys2Proof.Proofs.Messages Sys2Proof.Proofs.LaneQueues Sys2Proof.Proofs.LaneModes
  Sys2Proof.Proofs.DeliveryCycle

/-! ### Kinds and headers of frames from the node (R114, R117, R123) -/

section
variable (control : Byte)

theorem nodeKind_eq_reply_iff : nodeKind control = .reply ↔ control.toNat % 8 = 7 := by revert control; decide

theorem nodeKind_eq_report_iff : nodeKind control = .report ↔ control.toNat % 8 = 3 := by revert control; decide

theorem isAnswer_iff : (nodeKind control).isAnswer = true ↔ 4 ≤ control.toNat % 8 := by revert control; decide

theorem reply_beq : (nodeKind control == .reply) = decide (control.toNat % 8 = 7) := by
  rw [Bool.eq_iff_iff, beq_iff_eq, decide_eq_true_iff, nodeKind_eq_reply_iff]

/-- The lengths of R114, kind by kind. -/
theorem lengthOk_iff (n : Nat) : (nodeKind control).lengthOk n = true ↔
    (control.toNat % 8 = 3 ∧ n ≤ 64 ∨ (control.toNat % 8 = 4 ∨ control.toNat % 8 = 5) ∧ n = 0 ∨
      control.toNat % 8 = 6 ∧ n = 1 ∨ control.toNat % 8 = 7 ∧ n ≤ 512) := by
  have hlt : control.toNat % 8 < 8 := Nat.mod_lt _ (by decide)
  rw [nodeKind, kind_bits]
  interval_cases control.toNat % 8 <;> simp [NodeKind.lengthOk]

/-- A good header: bits 7 and 6 clear, and a length that the kind admits (R117). -/
theorem headerGood_iff (n : Nat) : headerGood control n = true ↔ control.toNat < 64 ∧
    (control.toNat % 8 = 3 ∧ n ≤ 64 ∨ (control.toNat % 8 = 4 ∨ control.toNat % 8 = 5) ∧ n = 0 ∨
      control.toNat % 8 = 6 ∧ n = 1 ∨ control.toNat % 8 = 7 ∧ n ≤ 512) := by
  have hbits : (control &&& 0xC0#8 == 0) = true ↔ control.toNat < 64 := by revert control; decide
  rw [headerGood, Bool.and_eq_true, hbits, lengthOk_iff]

theorem expects_iff (x : Lane) : x.expects (nodeKind control) = true ↔
    4 ≤ control.toNat % 8 ∧ x.phase = .awaitAnswer ∧ x.ackTimer.isSome = true := by
  rw [Lane.expects, Bool.and_eq_true, Bool.and_eq_true, isAnswer_iff, beq_iff_eq, and_assoc]

/-- A header of an answer kind in AWAIT_ANSWER leaves no ack timer running, whether it has stopped it or found none (R123). -/
theorem ackTimer_of_header (x : Lane) : (if x.expects (nodeKind control) then none else x.ackTimer) =
    if 4 ≤ control.toNat % 8 ∧ x.phase = .awaitAnswer then none else x.ackTimer := by
  simp only [expects_iff]
  cases h : x.ackTimer <;> simp

/-- The three classes of R123 by the header. -/
theorem classify_eq (x : Lane) : x.classify (nodeKind control) =
    if 4 ≤ control.toNat % 8 ∧ x.phase = .awaitAnswer ∧ x.ackTimer.isSome = true then .expected
    else if control.toNat % 8 = 3 then .report else .unexpected := by
  simp only [Lane.classify, expects_iff, beq_iff_eq, nodeKind_eq_report_iff]

end

/-- A lane whose receiver hunts again after a damaged frame, which is counted (R116, R118). -/
def damagedLane (x : Lane) : Lane :=
  { x with port := { x.port with rx := .hunting }
           counters := { x.counters with damagedFrames := min 65535 (x.counters.damagedFrames + 1) } }

/-- A damaged frame of a lane that stands as `x`, counted as its receiver hunts again. -/
theorem hunt_countDamaged_withLane (s : State) (l : LaneId) (x : Lane) :
    ((s.withLane l x).hunt l).countDamaged l = s.withLane l (damagedLane x) := by
  rw [hunt_eq, State.countDamaged, State.onCounters, onLane_eq_withLane, withLane_withLane, withLane_withLane]
  simp only [lane_withLane_self, satInc_eq_min]
  rfl

theorem hunt_countDamaged (s : State) (l : LaneId) :
    (s.hunt l).countDamaged l = s.withLane l (damagedLane (s.lane l)) := by
  have h := hunt_countDamaged_withLane s l (s.lane l)
  rwa [withLane_lane] at h

section
variable {s : State} {l : LaneId} {control hi lo : Byte} {changed : Bool} {gap : Nat}

/-- A good header fixes the class, and stops the ack timer when the frame is expected (R117, R123). -/
theorem dropHeader_of_good (hrx : (s.lane l).port.rx = .header changed gap) (hgood : headerGood control (natOf [hi, lo]) = true) :
    s.dropHeader l control hi lo = s.withLane l { s.lane l with
      ackTimer := if (s.lane l).expects (nodeKind control) then none else (s.lane l).ackTimer
      port := { (s.lane l).port with rx := .frame ⟨control, natOf [hi, lo], 4, crc16 [control, hi, lo],
        (s.lane l).classify (nodeKind control), changed, 0⟩ } } := by
  simp only [State.dropHeader, hrx, hgood, if_true]
  cases (s.lane l).expects (nodeKind control) with
  | false => rfl
  | true =>
    simp only [if_true]
    rw [State.onPort, onLane_onLane]
    rfl

/-- A bad header of a kind that is not expected is a damaged frame (R117). -/
theorem dropHeader_of_bad (hrx : (s.lane l).port.rx = .header changed gap)
    (hbad : ¬headerGood control (natOf [hi, lo]) = true) (hexp : ¬(s.lane l).expects (nodeKind control) = true) :
    s.dropHeader l control hi lo = s.withLane l (damagedLane (s.lane l)) := by
  simp only [State.dropHeader, hrx, if_neg hbad, if_neg hexp, State.damagedFrame]
  exact hunt_countDamaged s l

/-- A bad header of an expected kind stops the ack timer and is a miss as well (R117, R123, R124). -/
theorem dropHeader_of_bad_expected (hrx : (s.lane l).port.rx = .header changed gap)
    (hbad : ¬headerGood control (natOf [hi, lo]) = true) (hexp : (s.lane l).expects (nodeKind control) = true) :
    s.dropHeader l control hi lo =
      (s.withLane l (damagedLane { s.lane l with ackTimer := none })).takeMiss l (decide (control.toNat % 8 = 7)) := by
  simp only [State.dropHeader, hrx, if_neg hbad, hexp, if_true, State.damagedFrame, onLane_eq_withLane,
    hunt_countDamaged_withLane, reply_beq]

theorem dropHeader_of_not_header (h : ∀ changed gap, (s.lane l).port.rx ≠ .header changed gap) :
    s.dropHeader l control hi lo = s := by
  unfold State.dropHeader
  split
  · exact absurd (by assumption) (h _ _)
  · rfl

end

/-- Settles O52: the start byte, then the header good or bad, expected or not. -/
theorem receiverTakesTheHeader : Obligations.ReceiverTakesTheHeader := by
  intro s l control hi lo x kind length good expected cls
  have hlength : natOf [hi, lo] = length := natOf_pair hi lo
  have hgood : headerGood control (natOf [hi, lo]) = true ↔ good := by rw [hlength]; exact headerGood_iff control length
  have hexpected : x.expects (nodeKind control) = true ↔ expected := expects_iff control x
  refine ⟨fun hrx hlow => ?_, fun hnot => ?_, fun changed gap hrx => ⟨fun hg => ?_, fun hbad hno => ?_, fun hbad hyes => ?_⟩,
    fun hnot => ?_⟩
  · exact congrArg Host.Outcome.next (if_pos ⟨hrx, hlow⟩)
  · refine congrArg Host.Outcome.next (if_neg fun ⟨hrx, hlow⟩ => ?_)
    rcases hnot with hnot | hnot
    · exact hnot hrx
    · rw [hlow] at hnot; cases hnot
  · have hstep := dropHeader_of_good hrx (hgood.2 hg)
    rw [ackTimer_of_header, hlength, classify_eq] at hstep
    exact congrArg Host.Outcome.next hstep
  · exact congrArg Host.Outcome.next (dropHeader_of_bad hrx (mt hgood.1 hbad) (mt hexpected.1 hno))
  · exact congrArg Host.Outcome.next (dropHeader_of_bad_expected hrx (mt hgood.1 hbad) (hexpected.2 hyes))
  · exact congrArg Host.Outcome.next (dropHeader_of_not_header hnot)

/-! ### Frames damaged after their start byte (R116, R118, R119, R124, R130) -/

/-- The record after the bytes of a frame that has reached its lane: a matching REPLY leaves them in the reservation (R130). -/
def keptReply (f : RxFrame) (seq : Bool) (payload : List Byte) (y : Record) : Record :=
  if f.control.toNat % 8 = 7 ∧ f.control.getLsbD 3 = seq ∧ y.replyWanted = true then
    { y with reply := payload.take (y.replyLimit.getD 0) ++ y.reply.drop (min payload.length (y.replyLimit.getD 0)) }
  else y

theorem keptReply_ticket (f : RxFrame) (seq : Bool) (payload : List Byte) (y : Record) :
    (keptReply f seq payload y).ticket = y.ticket := by
  unfold keptReply; split <;> rfl

/-- An update of a record by itself is no change. -/
theorem onRecord_self (s : State) (t : Ticket) : s.onRecord t (fun y => y) = s := by
  simp only [State.onRecord, State.onTable, ite_self, List.map_id']

/-- Only the reply bytes differ, so a miss reads the same from either record. -/
theorem missed_keptReply (s : State) (l : LaneId) (t : Ticket) (r : Record) (ready : FrameKind) (f : RxFrame) (seq : Bool)
    (payload : List Byte) : s.missed l t (keptReply f seq payload r) ready = s.missed l t r ready := by
  unfold keptReply; split <;> rfl

section
variable {s : State} {l : LaneId} {f : RxFrame} {payload : List Byte}

/-- The bytes of an expected frame, as the record of the active message keeps them. -/
theorem storeReply_of_expected {t : Ticket} (ha : (s.lane l).active = some t) (he : f.answer = .expected) :
    s.storeReply l f payload = s.onRecord t (keptReply f (s.lane l).seq payload) := by
  by_cases hmatch : f.control.toNat % 8 = 7 ∧ f.control.getLsbD 3 = (s.lane l).seq
  · obtain ⟨hkind, hseq⟩ := hmatch
    have hkept : storedRecord payload = keptReply f (s.lane l).seq payload := by
      funext y
      by_cases hw : y.replyWanted = true
      · rw [storedRecord, keptReply, if_pos hw, if_pos ⟨hkind, hseq, hw⟩]
      · rw [storedRecord, keptReply, if_neg hw, if_neg fun ⟨_, _, hw'⟩ => hw hw']
    rw [storeReply_of_reply ha he (nodeKind_of_reply hkind) hseq, hkept]
  · have hkept : keptReply f (s.lane l).seq payload = fun y => y := by
      funext y
      exact if_neg fun ⟨hkind, hseq, _⟩ => hmatch ⟨hkind, hseq⟩
    have hother : nodeKind f.control ≠ .reply ∨ answerSeq f.control ≠ (s.lane l).seq := by
      rw [Ne, nodeKind_eq_reply_iff]
      exact not_and_or.1 hmatch
    rw [storeReply_of_other (.inr hother), hkept, onRecord_self]

/-- The end of a frame that is damaged: its bytes so far stored, the receiver hunting, the damage judged. -/
def frameDamaged (s : State) (l : LaneId) (f : RxFrame) (payload : List Byte) : State :=
  ((s.storeReply l f payload).hunt l).damagedFrame l (f.answer == .expected) (nodeKind f.control == .reply)

/-- A damaged frame that was not expected counts, and nothing else changes (R118). -/
theorem frameDamaged_of_not_expected (h : f.answer ≠ .expected) :
    frameDamaged s l f payload = s.withLane l (damagedLane (s.lane l)) := by
  rw [frameDamaged, storeReply_of_other (.inl h), State.damagedFrame, if_neg (by simpa using h), hunt_countDamaged]

/-- One that was expected is a miss as well, and after a REPLY header an NREQ becomes ready (R124, R129). -/
theorem frameDamaged_of_expected {t : Ticket} {r : Record} (h : f.answer = .expected) (ha : (s.lane l).active = some t)
    (hr : s.record? t = some r) :
    frameDamaged s l f payload =
      ((s.onRecord t (keptReply f (s.lane l).seq payload)).withLane l (damagedLane (s.lane l))).missed l t r
        (if f.control.toNat % 8 = 7 then .nreq else .data) := by
  let u : State := (s.onRecord t (keptReply f (s.lane l).seq payload)).withLane l (damagedLane (s.lane l))
  have hactive : (u.lane l).active = some t := by rw [lane_withLane_self]; exact ha
  have hrecord : u.record? t = some (keptReply f (s.lane l).seq payload r) :=
    record?_onRecord_self hr _ (keptReply_ticket f _ payload)
  rw [frameDamaged, storeReply_of_expected ha h, State.damagedFrame, if_pos (by simpa using h), hunt_countDamaged,
    lane_onRecord, takeMiss_eq hactive hrecord, missed_keptReply, reply_beq]
  simp only [decide_eq_true_eq, u]

/-- A cut in the header damages the frame (R116). -/
theorem cutFrame_of_header {changed : Bool} {gap : Nat} {taken : List Byte}
    (hrx : (s.lane l).port.rx = .header changed gap) (hlen : taken.length < 3) :
    s.cutFrame l taken = s.withLane l (damagedLane (s.lane l)) := by
  simp only [State.cutFrame, hrx, if_pos hlen]
  exact hunt_countDamaged s l

/-- A cut after the header damages the frame (R116). -/
theorem cutFrame_of_frame {taken : List Byte} (hrx : (s.lane l).port.rx = .frame f) (hlen : taken.length < f.length + 2) :
    s.cutFrame l taken = frameDamaged s l f (taken.take f.length) := by
  simp only [State.cutFrame, hrx, if_pos hlen]
  rfl

/-- A changed rate or a bad check damages the frame at its end (R118, R119). -/
theorem dropFrameEnd_of_bad {chars : List Byte} (hrx : (s.lane l).port.rx = .frame f) (hlen : chars.length = f.length + 2)
    (hbad : f.rateChanged = true ∨ chars.drop f.length ≠ checkBytes (crcMore f.check (chars.take f.length))) :
    s.dropFrameEnd l chars = frameDamaged s l f (chars.take f.length) := by
  have hjudged : ¬(!f.rateChanged && chars.drop f.length == checkBytes (crcMore f.check (chars.take f.length))) = true := by
    rw [Bool.and_eq_true, Bool.not_eq_true', beq_iff_eq]
    rintro ⟨hrate, hcheck⟩
    rcases hbad with hbad | hbad
    · rw [hrate] at hbad; cases hbad
    · exact hbad hcheck
  simp only [State.dropFrameEnd, hrx, if_pos hlen, if_neg hjudged]
  rfl

/-- Outside a frame neither a cut nor an end does anything (log 2). -/
theorem cutFrame_of_no_frame (h : (s.lane l).port.rx = .hunting ∨ (s.lane l).port.rx = .discarding) (taken : List Byte) :
    s.cutFrame l taken = s := by
  rcases h with h | h <;> simp only [State.cutFrame, h]

theorem dropFrameEnd_of_no_frame (h : (s.lane l).port.rx = .hunting ∨ (s.lane l).port.rx = .discarding) (chars : List Byte) :
    s.dropFrameEnd l chars = s := by
  rcases h with h | h <;> simp only [State.dropFrameEnd, h]

/-- Within a frame the gap watch compares the pause with 4 character times of 10 bits at the lane's rate (R112, R116). -/
theorem gapOver_iff {x : Lane} {gap : Nat} (h : x.port.rx.gap? = some gap) (since : Nat) :
    x.gapOver since = true ↔ 4 * 10 * 24000000 < (gap + since) * dropRate x.config.lineRate := by
  rw [Lane.gapOver, h]
  exact decide_eq_true_iff

/-- Outside a frame no pause is measured. -/
theorem gapOver_of_no_frame {x : Lane} (h : x.port.rx = .hunting ∨ x.port.rx = .discarding) (since : Nat) :
    x.gapOver since = false := by
  rcases h with h | h <;> rw [Lane.gapOver, h] <;> rfl

theorem exec_dropGapCut_of_over {cut : GapCut} (h : (s.lane l).gapOver cut.since = true) :
    exec (.dropGapCut l cut) s = .next (s.cutFrame l cut.taken) := congrArg Host.Outcome.next (if_pos h)

theorem exec_dropGapCut_of_within {cut : GapCut} (h : ¬(s.lane l).gapOver cut.since = true) :
    exec (.dropGapCut l cut) s = .next s := congrArg Host.Outcome.next (if_neg h)

end

/-- Settles O53: in the header, in the frame by each way it can be damaged, and out of turn. -/
theorem cutFrameIsDamaged : Obligations.CutFrameIsDamaged := by
  intro s l x exceeds heard
  refine ⟨fun changed gap taken hrx hlen => ?_, fun f hrx => ⟨fun taken since hwithin => ?_, fun c bytes hc => ?_⟩,
    fun hno bytes since => ?_⟩
  · have hgap : x.port.rx.gap? = some gap := by rw [hrx]; rfl
    have hcut : s.cutFrame l taken = s.withLane l heard := cutFrame_of_header hrx hlen
    refine ⟨fun since hover => ?_, fun since hwithin => ?_, congrArg Host.Outcome.next hcut⟩
    · rw [exec_dropGapCut_of_over ((gapOver_iff hgap since).2 hover), hcut]
    · exact exec_dropGapCut_of_within (mt (gapOver_iff hgap since).1 hwithin)
  · have hgap : x.port.rx.gap? = some f.gap := by rw [hrx]; rfl
    exact exec_dropGapCut_of_within (mt (gapOver_iff hgap since).1 hwithin)
  · have hgap : x.port.rx.gap? = some f.gap := by rw [hrx]; rfl
    have hexec : exec c s = .next (frameDamaged s l f (bytes.take f.length)) := by
      rcases hc with ⟨hlen, rfl | ⟨since, hover, rfl⟩⟩ | ⟨hlen, rfl, hbad⟩
      · exact congrArg Host.Outcome.next (cutFrame_of_frame hrx hlen)
      · rw [exec_dropGapCut_of_over ((gapOver_iff hgap since).2 hover), cutFrame_of_frame hrx hlen]
      · exact congrArg Host.Outcome.next (dropFrameEnd_of_bad hrx hlen hbad)
    refine ⟨fun hclass => ?_, fun t r hclass ha hr => ?_⟩
    · rw [hexec, frameDamaged_of_not_expected hclass]; rfl
    · rw [hexec, frameDamaged_of_expected hclass ha hr]; rfl
  · refine ⟨?_, ?_, ?_⟩
    · exact exec_dropGapCut_of_within (by rw [gapOver_of_no_frame hno]; decide)
    · exact congrArg Host.Outcome.next (cutFrame_of_no_frame hno bytes)
    · exact congrArg Host.Outcome.next (dropFrameEnd_of_no_frame hno bytes)

/-! ### Reports (R132, R140, R141) -/

section
variable {s : State} {l : LaneId} (bytes : List Byte)

theorem arriveReport_of_room (h : (s.lane l).holding.length < 2) :
    s.arriveReport l bytes = (s.withLane l { s.lane l with holding := (s.lane l).holding ++ [⟨bytes, s.time⟩] }).raise
      ⟨.report, some l, 0, .none, none⟩ := if_pos h

theorem arriveReport_of_full (h : 2 ≤ (s.lane l).holding.length) :
    s.arriveReport l bytes = (s.withLane l { s.lane l with
      counters := { (s.lane l).counters with reportOverruns := min 65535 ((s.lane l).counters.reportOverruns + 1) } }).raise
      ⟨.overrun, some l, 0, .none, none⟩ := by
  have hfull : ¬(s.lane l).holding.length < Config.reportsHeld := Nat.not_lt.2 h
  rw [State.arriveReport, if_neg hfull, State.onCounters, onLane_eq_withLane, satInc_eq_min]
  rfl

end

/-- Settles O56: the frame ends undamaged, and the holding has room or has none. -/
theorem reportJoinsTheHoldingOrIsLost : Obligations.ReportJoinsTheHoldingOrIsLost := by
  intro s l f payload x hrx hclass hrate hlen answer heard
  obtain ⟨-, -, hreport⟩ := dropFrameEnd_of_good (s := s) (l := l) hrx hrate hlen
  have hnext := hreport hclass
  rw [storeReply_of_other (.inl (by rw [hclass]; decide)), hunt_eq] at hnext
  have hheard : (s.withLane l heard).lane l = heard := lane_withLane_self _ _ _
  refine ⟨fun hroom => ?_, fun hfull => ?_⟩
  · rw [arriveReport_of_room payload (by rw [lane_withLane_self]; exact hroom), hheard, withLane_withLane] at hnext
    exact congrArg Host.Outcome.next hnext
  · rw [arriveReport_of_full payload (by rw [lane_withLane_self]; exact hfull), hheard, withLane_withLane] at hnext
    exact congrArg Host.Outcome.next hnext

/-! ### LANE_RESEQ (R137) -/

section
variable {args : List Byte} {lane action bit : Byte}

theorem laneReseqArgs_of_length (h : args.length ≠ 3) : laneReseqArgs (0x14 :: args) = .error .badLength := by
  unfold laneReseqArgs
  split
  · rename_i heq
    obtain ⟨-, rfl⟩ := List.cons.inj heq
    exact absurd rfl h
  · rfl

/-- A lane, an action or a bit value out of range (R190). -/
theorem laneReseqArgs_of_illegal (h : 8 ≤ lane.toNat ∨ (action ≠ 1#8 ∧ action ≠ 2#8) ∨ (action = 1#8 ∧ 1 < bit.toNat) ∨
    (action = 2#8 ∧ bit ≠ 0#8)) : laneReseqArgs [0x14, lane, action, bit] = .error .badArgument := by
  rw [laneReseqArgs]
  split_ifs with hlegal
  · rcases h with h | ⟨h1, h2⟩ | ⟨h1, hbit⟩ | ⟨h2, hbit⟩
    · rw [laneArgument_of_ge h]
    · rcases hlegal with ⟨h, -⟩ | ⟨h, -⟩
      · exact absurd h h1
      · exact absurd h h2
    · rcases hlegal with ⟨-, hle⟩ | ⟨h, -⟩
      · exact absurd hle (Nat.not_le.2 hbit)
      · exact absurd (h1.symm.trans h) (by decide)
    · rcases hlegal with ⟨h, -⟩ | ⟨-, h0⟩
      · exact absurd (h2.symm.trans h) (by decide)
      · exact absurd h0 hbit
  · rfl

theorem laneReseqArgs_of_force (l : LaneId) (bit : Bool) :
    laneReseqArgs [0x14, BitVec.ofNat 8 l.val, 0x01, BitVec.ofNat 8 bit.toNat] = .ok (l, bit) := by
  have hle : (BitVec.ofNat 8 bit.toNat).toNat ≤ 1 := by cases bit <;> decide
  have hbit : (BitVec.ofNat 8 bit.toNat).getLsbD 0 = bit := by cases bit <;> rfl
  rw [laneReseqArgs, if_pos (.inl ⟨rfl, hle⟩), laneArgument_ofNat, hbit]

theorem laneReseqArgs_of_mark (l : LaneId) : laneReseqArgs [0x14, BitVec.ofNat 8 l.val, 0x02, 0x00] = .ok (l, false) := by
  rw [laneReseqArgs, if_pos (.inr ⟨rfl, rfl⟩), laneArgument_ofNat]
  rfl

end

section
variable {s u : State} {tag : Byte} {args : List Byte} {rest : List Request} {r : Reply} {st : Status} {l : LaneId}

theorem exec_laneReseqForce_of_run (h : Taken s ⟨tag, 0x14 :: args⟩ rest)
    (hrow : requestRow (0x14 :: args) = .laneReseqForce)
    (hrun : runLaneReseqForce (0x14 :: args) (s.taken rest) = (r, u)) :
    exec .laneReseqForce s = .next (u.appends tag (0x14 :: r.status.code :: r.content)) :=
  congrArg Host.Outcome.next (takeRequest_of_run h hrow hrun)

theorem exec_laneReseqMark_of_run (h : Taken s ⟨tag, 0x14 :: args⟩ rest)
    (hrow : requestRow (0x14 :: args) = .laneReseqMark)
    (hrun : runLaneReseqMark (0x14 :: args) (s.taken rest) = (r, u)) :
    exec .laneReseqMark s = .next (u.appends tag (0x14 :: r.status.code :: r.content)) :=
  congrArg Host.Outcome.next (takeRequest_of_run h hrow hrun)

/-- A malformed body is refused by whichever row it falls under (R168, log 6). -/
theorem exec_laneReseq_of_error (h : Taken s ⟨tag, 0x14 :: args⟩ rest) (he : laneReseqArgs (0x14 :: args) = .error st) :
    exec (requestCommand (0x14 :: args)) s = .next (s.answered rest tag [0x14, st.code]) := by
  have hrow : requestRow (0x14 :: args) =
      if (0x14 :: args)[2]? = some 2#8 then .laneReseqMark else .laneReseqForce := rfl
  by_cases hmark : (0x14 :: args)[2]? = some 2#8
  · rw [if_pos hmark] at hrow
    have hrun : runLaneReseqMark (0x14 :: args) (s.taken rest) = (.refuse st, s.taken rest) := by
      rw [runLaneReseqMark, he]
    rw [requestCommand, hrow]
    exact exec_laneReseqMark_of_run h hrow hrun
  · rw [if_neg hmark] at hrow
    have hrun : runLaneReseqForce (0x14 :: args) (s.taken rest) = (.refuse st, s.taken rest) := by
      rw [runLaneReseqForce, he]
    rw [requestCommand, hrow]
    exact exec_laneReseqForce_of_run h hrow hrun

theorem runLaneReseqForce_of_legal (s : State) (l : LaneId) (bit : Bool) :
    runLaneReseqForce [0x14, BitVec.ofNat 8 l.val, 0x01, BitVec.ofNat 8 bit.toNat] s =
      if (s.lane l).laneActive then (.refuse .laneActive, s)
      else (.ok [BitVec.ofNat 8 bit.toNat], s.withLane l { s.lane l with seq := bit, resync := false }) := by
  have hstate : sequenceState bit false = BitVec.ofNat 8 bit.toNat := sequenceState_eq bit false
  rw [runLaneReseqForce, laneReseqArgs_of_force, ← hstate]
  rfl

theorem runLaneReseqMark_of_legal (s : State) (l : LaneId) :
    runLaneReseqMark [0x14, BitVec.ofNat 8 l.val, 0x02, 0x00] s =
      if (s.lane l).laneActive then (.refuse .laneActive, s)
      else (.ok [BitVec.ofNat 8 (2 + (s.lane l).seq.toNat)], s.withLane l { s.lane l with resync := true }) := by
  have hstate : sequenceState (s.lane l).seq true = BitVec.ofNat 8 (2 + (s.lane l).seq.toNat) := by
    rw [sequenceState_eq, Nat.add_comm]; rfl
  rw [runLaneReseqMark, laneReseqArgs_of_mark, ← hstate]
  rfl

end

/-- Settles O31: the malformed bodies, then FORCE and MARK on a lane that refuses and on one that does not. -/
theorem laneReseqForcesOrMarks : Obligations.LaneReseqForcesOrMarks := by
  intro s tag rest
  refine ⟨fun args h hlen => ?_, fun lane action bit h hbad => ?_, fun l bit => ?_⟩
  · exact exec_laneReseq_of_error h (laneReseqArgs_of_length hlen)
  · exact exec_laneReseq_of_error h (laneReseqArgs_of_illegal hbad)
  intro x refused
  refine ⟨fun h => ?_, fun h => ?_⟩
  · have hrun := runLaneReseqForce_of_legal (s.taken rest) l bit
    rw [lane_taken] at hrun
    refine ⟨fun hrefused => ?_, fun hfree => ?_⟩
    · rw [if_pos ((laneActive_iff _).2 hrefused)] at hrun
      exact exec_laneReseqForce_of_run h rfl hrun
    · rw [if_neg (mt (laneActive_iff _).1 hfree)] at hrun
      exact exec_laneReseqForce_of_run h rfl hrun
  · have hrun := runLaneReseqMark_of_legal (s.taken rest) l
    rw [lane_taken] at hrun
    refine ⟨fun hrefused => ?_, fun hfree => ?_⟩
    · rw [if_pos ((laneActive_iff _).2 hrefused)] at hrun
      exact exec_laneReseqMark_of_run h rfl hrun
    · rw [if_neg (mt (laneActive_iff _).1 hfree)] at hrun
      exact exec_laneReseqMark_of_run h rfl hrun

/-! ### DROP_RESET (R133, R134) -/

theorem laneArgs_of_length {c : Byte} {args : List Byte} (h : args.length ≠ 1) :
    laneArgs (c :: args) = .error .badLength := by
  unfold laneArgs
  split
  · rename_i heq
    obtain ⟨-, rfl⟩ := List.cons.inj heq
    exact absurd rfl h
  · rfl

section
variable {s u : State} {tag : Byte} {args : List Byte} {rest : List Request} {r : Reply} {st : Status}

theorem exec_dropReset_of_run (h : Taken s ⟨tag, 0x15 :: args⟩ rest)
    (hrun : runDropReset (0x15 :: args) (s.taken rest) = (r, u)) :
    exec .dropReset s = .next (u.appends tag (0x15 :: r.status.code :: r.content)) :=
  congrArg Host.Outcome.next (takeRequest_of_run h rfl hrun)

theorem exec_dropReset_of_error (h : Taken s ⟨tag, 0x15 :: args⟩ rest) (he : laneArgs (0x15 :: args) = .error st) :
    exec .dropReset s = .next (s.answered rest tag [0x15, st.code]) :=
  exec_dropReset_of_run (r := .refuse st) h (by rw [runDropReset, he])

theorem runDropReset_of_lane (s : State) (l : LaneId) : runDropReset [0x15, BitVec.ofNat 8 l.val] s =
    if (s.lane l).laneActive then (.refuse .laneActive, s) else (.ok [], s.withLane l (s.lane l).beginReset) := by
  rw [runDropReset, laneArgs, laneArgument_ofNat]
  rfl

end

/-- Settles O32: each check is reached once the ones before it have passed. -/
theorem dropResetBeginsTheBreak : Obligations.DropResetBeginsTheBreak := by
  intro s tag rest
  refine ⟨fun args h hlen => ?_, fun lane h hlane => ?_, fun l h => ?_⟩
  · exact exec_dropReset_of_error h (laneArgs_of_length hlen)
  · exact exec_dropReset_of_error h (laneArgument_of_ge hlane)
  · intro x refused
    have hrun := runDropReset_of_lane (s.taken rest) l
    rw [lane_taken] at hrun
    refine ⟨fun hrefused => ?_, fun hfree => ?_⟩
    · rw [if_pos ((laneActive_iff _).2 hrefused)] at hrun
      exact exec_dropReset_of_run h hrun
    · rw [if_neg (mt (laneActive_iff _).1 hfree)] at hrun
      exact exec_dropReset_of_run h hrun

/-! ### The queue of commands outlasts every command (log 1, log 16) -/

section
variable (s : State) (l : LaneId)

/-! #### The receiver of a Drop Port -/

@[simp] theorem hunt_pending : (s.hunt l).pending = s.pending := rfl

@[simp] theorem dropStartByte_pending : (s.dropStartByte l).pending = s.pending := by
  unfold State.dropStartByte; split_ifs <;> simp

@[simp] theorem dropHeader_pending (control lenHi lenLo : Byte) : (s.dropHeader l control lenHi lenLo).pending = s.pending := by
  unfold State.dropHeader
  split <;> [skip; rfl]
  dsimp only
  split_ifs <;> simp

@[simp] theorem cutFrame_pending (taken : List Byte) : (s.cutFrame l taken).pending = s.pending := by
  unfold State.cutFrame; split <;> [split_ifs; split_ifs; skip; skip] <;> simp

@[simp] theorem gapCut_pending (cut : GapCut) : (s.gapCut l cut).pending = s.pending := by
  rcases gapCut_cases s l cut with ⟨-, e⟩ | ⟨-, e⟩ <;> rw [e]
  exact cutFrame_pending s l cut.taken

@[simp] theorem dropFrameEnd_pending (chars : List Byte) : (s.dropFrameEnd l chars).pending = s.pending := by
  unfold State.dropFrameEnd
  split <;> [skip; rfl]
  dsimp only
  split_ifs <;> [split; skip; skip] <;> simp

/-! #### Timers, frames and the generator of a lane -/

@[simp] theorem creditEarned_pending : (s.creditEarned l).pending = s.pending := by
  unfold State.creditEarned; split_ifs <;> simp

@[simp] theorem releaseReached_pending : (s.releaseReached l).pending = s.pending := by
  unfold State.releaseReached; split_ifs <;> simp

@[simp] theorem startFrame_pending : (s.startFrame l).pending = s.pending := by
  unfold State.startFrame; split_ifs <;> [split; skip] <;> simp

@[simp] theorem frameSent_pending : (s.frameSent l).pending = s.pending := by
  unfold State.frameSent; split_ifs <;> simp

@[simp] theorem ackExpiry_pending : (s.ackExpiry l).pending = s.pending := by
  unfold State.ackExpiry; split_ifs <;> simp

@[simp] theorem backoffExpiry_pending : (s.backoffExpiry l).pending = s.pending := by
  unfold State.backoffExpiry; split_ifs <;> simp

@[simp] theorem dropBreakEnd_pending : (s.dropBreakEnd l).pending = s.pending := by
  unfold State.dropBreakEnd; split_ifs <;> simp

@[simp] theorem dropResetEnd_pending : (s.dropResetEnd l).pending = s.pending := by
  unfold State.dropResetEnd; split_ifs <;> simp

/-! #### The control link -/

@[simp] theorem linkDamage_pending (why : DamageReason) : (s.linkDamage why).pending = s.pending := rfl

@[simp] theorem controlStartByte_pending : s.controlStartByte.pending = s.pending := by
  unfold State.controlStartByte; split_ifs <;> simp

@[simp] theorem controlHeader_pending (lenHi lenLo : Byte) : (s.controlHeader lenHi lenLo).pending = s.pending := by
  unfold State.controlHeader; split_ifs <;> simp

@[simp] theorem goodRequest_pending (q : Request) : (s.goodRequest q).pending = s.pending := by
  unfold State.goodRequest; dsimp only; split_ifs <;> simp

@[simp] theorem controlFrameEnd_pending (chars : List Byte) : (s.controlFrameEnd chars).pending = s.pending := by
  unfold State.controlFrameEnd
  split <;> [skip; rfl]
  dsimp only
  split_ifs <;> [skip; simp; rfl]
  split <;> [split_ifs; skip] <;> simp

@[simp] theorem controlGap_pending : s.controlGap.pending = s.pending := by
  unfold State.controlGap; split_ifs <;> simp

/-- The reset that a break may take leaves the queue as well (log 16). -/
@[simp] theorem linkBreak_pending : s.linkBreak.pending = s.pending := by
  rcases linkBreak_cases s with ⟨-, e⟩ | ⟨-, -, e⟩ | ⟨-, -, e⟩ <;> rw [e] <;> rfl

@[simp] theorem linkReset_pending : s.linkReset.pending = s.pending := by
  unfold State.linkReset; split_ifs <;> simp

@[simp] theorem seeHrx_pending (h : HrxSample) : (s.seeHrx h).pending = s.pending := by
  unfold State.seeHrx; split_ifs <;> simp

@[simp] theorem responseStart_pending : s.responseStart.pending = s.pending := by
  unfold State.responseStart; split <;> [skip; split_ifs] <;> simp

@[simp] theorem noticeStart_pending : s.noticeStart.pending = s.pending := by
  unfold State.noticeStart; split <;> [skip; split_ifs] <;> simp

@[simp] theorem controlFrameSent_pending : s.controlFrameSent.pending = s.pending := by
  rcases controlFrameSent_cases s with ⟨-, e⟩ | ⟨-, -, e⟩ | ⟨-, e⟩ <;> rw [e] <;> rfl

/-! #### Operations lane by lane, and the advance -/

/-- What each lane's operation leaves, all of them in turn leave. -/
theorem foldl_pending {α : Type} {g : State → α → State} (h : ∀ u a, (g u a).pending = u.pending) (as : List α) (s : State) :
    (as.foldl g s).pending = s.pending := by
  induction as generalizing s with
  | nil => rfl
  | cons a as ih => rw [List.foldl_cons, ih, h]

@[simp] theorem holdQuiet_pending : (s.holdQuiet l).pending = s.pending := by
  unfold State.holdQuiet; split_ifs <;> simp

@[simp] theorem quietExpiry_pending : s.quietExpiry.pending = s.pending := by
  unfold State.quietExpiry
  split_ifs
  · rw [grantScan_pending, foldl_pending holdQuiet_pending, onLink_pending]
  · rfl

@[simp] theorem settleLane_pending : (s.settleLane l).pending = s.pending := by
  unfold State.settleLane; simp

@[simp] theorem settle_pending (p : TickSample) : (s.settle p).pending = s.pending := by
  unfold State.settle
  dsimp only
  rw [foldl_pending startFrame_pending, foldl_pending fun u l => gapCut_pending u l _, seeHrx_pending, linkBreak_pending,
    controlGap_pending, quietExpiry_pending, foldl_pending settleLane_pending]

/-! #### The operations of the requests -/

@[simp] theorem enterHalt_pending : (s.enterHalt l).pending = s.pending := by
  unfold State.enterHalt; split <;> simp

@[simp] theorem flushAll_pending (q : List Ticket) : (s.flushAll q).pending = s.pending :=
  foldl_pending (fun u t => endRecord_pending u t .cancelled .flushed none) q s

@[simp] theorem flushLane_pending : (s.flushLane l).pending = s.pending := by
  unfold State.flushLane; simp

@[simp] theorem createRecord_pending (a : SubmitArgs) (t : Ticket) : (s.createRecord a t).pending = s.pending := by
  unfold State.createRecord; simp

@[simp] theorem enqueue_pending (a : SubmitArgs) (t : Ticket) : (s.enqueue a t).pending = s.pending := by
  unfold State.enqueue; dsimp only; split_ifs <;> simp

@[simp] theorem cancelQueued_pending (r : Record) : (s.cancelQueued r).pending = s.pending := by
  unfold State.cancelQueued; dsimp only; split_ifs <;> simp

@[simp] theorem markActive_pending (r : Record) : (s.markActive r).pending = s.pending := by
  unfold State.markActive; dsimp only; split <;> simp

@[simp] theorem retireRecord_pending (r : Record) : (s.retireRecord r).pending = s.pending := by
  unfold State.retireRecord; dsimp only; split_ifs <;> simp

end

/-! #### The meanings of the requests -/

section
variable (body : List Byte) (s : State)

theorem runIdentify_pending : (runIdentify body s).2.pending = s.pending := by
  unfold runIdentify; split <;> rfl

theorem runPartStatus_pending : (runPartStatus body s).2.pending = s.pending := by
  unfold runPartStatus; split <;> [rfl; (dsimp only; split_ifs <;> rfl)]

theorem runPartConfig_pending : (runPartConfig body s).2.pending = s.pending := by
  unfold runPartConfig; split <;> rfl

theorem runRestart_pending : (runRestart body s).2.pending = s.pending := by
  unfold runRestart; split <;> rfl

theorem runLaneConfig_pending : (runLaneConfig body s).2.pending = s.pending := by
  unfold runLaneConfig; split <;> [rfl; split_ifs] <;> rfl

theorem runLaneModeHold_pending : (runLaneModeHold body s).2.pending = s.pending := by
  unfold runLaneModeHold; split <;> [rfl; split] <;> simp

theorem runLaneModePass_pending : (runLaneModePass body s).2.pending = s.pending := by
  unfold runLaneModePass
  split <;> [rfl; split] <;> [(dsimp only; split_ifs); skip; skip] <;> simp

theorem runLaneModeHalt_pending : (runLaneModeHalt body s).2.pending = s.pending := by
  unfold runLaneModeHalt; split <;> [rfl; split] <;> simp

theorem runLaneStatus_pending : (runLaneStatus body s).2.pending = s.pending := by
  unfold runLaneStatus; split <;> [rfl; (dsimp only; split_ifs)] <;> simp

theorem runLaneFlush_pending : (runLaneFlush body s).2.pending = s.pending := by
  unfold runLaneFlush; split <;> [rfl; (dsimp only; split_ifs)] <;> simp

theorem runLaneReseqForce_pending : (runLaneReseqForce body s).2.pending = s.pending := by
  unfold runLaneReseqForce; split <;> [rfl; split_ifs] <;> rfl

theorem runLaneReseqMark_pending : (runLaneReseqMark body s).2.pending = s.pending := by
  unfold runLaneReseqMark; split <;> [rfl; split_ifs] <;> rfl

theorem runDropReset_pending : (runDropReset body s).2.pending = s.pending := by
  unfold runDropReset; split <;> [rfl; split_ifs] <;> rfl

theorem runSubmit_pending : (runSubmit body s).2.pending = s.pending := by
  unfold runSubmit; split <;> [rfl; split_ifs] <;> [rfl; rfl; rfl; split] <;> simp

theorem runCancel_pending : (runCancel body s).2.pending = s.pending := by
  unfold runCancel; split <;> [rfl; split] <;> [rfl; split] <;> simp

theorem runQuery_pending : (runQuery body s).2.pending = s.pending := by
  unfold runQuery; split <;> [rfl; split] <;> rfl

theorem runReplyRead_pending : (runReplyRead body s).2.pending = s.pending := by
  unfold runReplyRead; split <;> [rfl; split] <;> [rfl; split_ifs] <;> rfl

theorem runCollect_pending : (runCollect body s).2.pending = s.pending := by
  unfold runCollect; split <;> rfl

theorem runRetire_pending : (runRetire body s).2.pending = s.pending := by
  unfold runRetire; split <;> [rfl; split] <;> [rfl; split_ifs] <;> simp

theorem runReportTake_pending : (runReportTake body s).2.pending = s.pending := by
  unfold runReportTake; split <;> [rfl; split] <;> rfl

end

/-- A request command leaves the queue when its meaning on every body does. -/
theorem takeRequest_pending (s : State) {row : RequestRow} {run : List Byte → State → Reply × State}
    (hrun : ∀ body u, (run body u).2.pending = u.pending) : (s.takeRequest row run).pending = s.pending := by
  rcases takeRequest_cases s row run with e | ⟨q, rest, -, -, e⟩ <;> rw [e]
  rw [respond_pending, hrun]
  rfl

/-- Settles O2, row by row: each names its next state, which has the queue of the one before. -/
theorem everyCommandCompletesAndKeepsTheQueue : Obligations.EveryCommandCompletesAndKeepsTheQueue := by
  intro c s
  cases c with
  | identify => exact ⟨_, rfl, takeRequest_pending s runIdentify_pending⟩
  | partStatus => exact ⟨_, rfl, takeRequest_pending s runPartStatus_pending⟩
  | partConfig => exact ⟨_, rfl, takeRequest_pending s runPartConfig_pending⟩
  | restart => exact ⟨_, rfl, takeRequest_pending s runRestart_pending⟩
  | laneConfig => exact ⟨_, rfl, takeRequest_pending s runLaneConfig_pending⟩
  | laneModeHold => exact ⟨_, rfl, takeRequest_pending s runLaneModeHold_pending⟩
  | laneModePass => exact ⟨_, rfl, takeRequest_pending s runLaneModePass_pending⟩
  | laneModeHalt => exact ⟨_, rfl, takeRequest_pending s runLaneModeHalt_pending⟩
  | laneStatus => exact ⟨_, rfl, takeRequest_pending s runLaneStatus_pending⟩
  | laneFlush => exact ⟨_, rfl, takeRequest_pending s runLaneFlush_pending⟩
  | laneReseqForce => exact ⟨_, rfl, takeRequest_pending s runLaneReseqForce_pending⟩
  | laneReseqMark => exact ⟨_, rfl, takeRequest_pending s runLaneReseqMark_pending⟩
  | dropReset => exact ⟨_, rfl, takeRequest_pending s runDropReset_pending⟩
  | submit => exact ⟨_, rfl, takeRequest_pending s runSubmit_pending⟩
  | cancel => exact ⟨_, rfl, takeRequest_pending s runCancel_pending⟩
  | query => exact ⟨_, rfl, takeRequest_pending s runQuery_pending⟩
  | replyRead => exact ⟨_, rfl, takeRequest_pending s runReplyRead_pending⟩
  | collect => exact ⟨_, rfl, takeRequest_pending s runCollect_pending⟩
  | retire => exact ⟨_, rfl, takeRequest_pending s runRetire_pending⟩
  | reportTake => exact ⟨_, rfl, takeRequest_pending s runReportTake_pending⟩
  | unknownRequest => exact ⟨_, rfl, takeRequest_pending s fun _ _ => rfl⟩
  | controlHeaderTaken lenHi lenLo => exact ⟨_, rfl, controlHeader_pending s lenHi lenLo⟩
  | controlFrameEnd chars => exact ⟨_, rfl, controlFrameEnd_pending s chars⟩
  | controlFrameGap => exact ⟨_, rfl, controlGap_pending s⟩
  | linkBreak => exact ⟨_, rfl, linkBreak_pending s⟩
  | linkReset => exact ⟨_, rfl, linkReset_pending s⟩
  | hostQuietExpiry => exact ⟨_, rfl, quietExpiry_pending s⟩
  | responseStart => exact ⟨_, rfl, responseStart_pending s⟩
  | noticeStart => exact ⟨_, rfl, noticeStart_pending s⟩
  | controlFrameSent => exact ⟨_, rfl, controlFrameSent_pending s⟩
  | restartReset pins =>
    refine ⟨_, rfl, ?_⟩
    split_ifs <;> rfl
  | pinReset low pins =>
    refine ⟨_, rfl, ?_⟩
    cases low <;> rfl
  | tick pins =>
    refine ⟨_, rfl, ?_⟩
    split_ifs
    · rfl
    · rw [advance_pending, settle_pending]
  | slotCreditEarned lane => exact ⟨_, rfl, creditEarned_pending s lane⟩
  | releaseTimeReached lane => exact ⟨_, rfl, releaseReached_pending s lane⟩
  | transmissionStart lane => exact ⟨_, rfl, startFrame_pending s lane⟩
  | dropFrameSent lane => exact ⟨_, rfl, frameSent_pending s lane⟩
  | dropHeaderTaken lane control lenHi lenLo => exact ⟨_, rfl, dropHeader_pending s lane control lenHi lenLo⟩
  | dropGapCut lane cut => exact ⟨_, rfl, gapCut_pending s lane cut⟩
  | dropFrameEnd lane chars => exact ⟨_, rfl, dropFrameEnd_pending s lane chars⟩
  | ackTimeout lane => exact ⟨_, rfl, ackExpiry_pending s lane⟩
  | backoffExpiry lane => exact ⟨_, rfl, backoffExpiry_pending s lane⟩
  | dropResetBreakEnd lane => exact ⟨_, rfl, dropBreakEnd_pending s lane⟩
  | dropResetEnd lane => exact ⟨_, rfl, dropResetEnd_pending s lane⟩
  | dropStartByte lane => exact ⟨_, rfl, dropStartByte_pending s lane⟩
  | controlStartByte => exact ⟨_, rfl, controlStartByte_pending s⟩
  | dropFramingFault lane taken => exact ⟨_, rfl, cutFrame_pending s lane taken⟩

end Sys2Proof.Proofs.DropLine
end

section
/-! PROOFS. The Notice Unit: what an event does to the list, how long the list can be, what a notice frame carries, and
that every step keeps the laws of the list. -/

namespace Sys2Proof.Proofs.Notices

-- One theorem at a time: each elaboration thread takes 1 GiB of the check's memory limit.
set_option Elab.async false

open Sys2Proof Sys2Proof.Machine Sys2Proof.Proofs.Messages

/-! ### An event and its pending entry (R150, R151) -/

/-- The pending entry of an event is the one of its lane and kind. -/
theorem matches_iff {e : Event} {n : NoticeEntry} : e.matches n = true ↔ n.kind = e.kind ∧ n.lane = e.lane := by
  simp [Event.matches]

theorem matches_iff_key {e : Event} {n : NoticeEntry} : e.matches n = true ↔ n.key = (e.kind, e.lane) := by
  rw [matches_iff, NoticeEntry.key, Prod.mk.injEq]

/-- What the Notice Unit does to each entry when it merges an event: the pending entry takes it, the others stay (R151). -/
def mergeInto (e : Event) (now : PartTime) (n : NoticeEntry) : NoticeEntry := if e.matches n then e.merge now n else n

@[simp] theorem mergeInto_kind (e : Event) (now : PartTime) (n : NoticeEntry) : (mergeInto e now n).kind = n.kind := by
  unfold mergeInto; split_ifs <;> rfl

@[simp] theorem mergeInto_lane (e : Event) (now : PartTime) (n : NoticeEntry) : (mergeInto e now n).lane = n.lane := by
  unfold mergeInto; split_ifs <;> rfl

@[simp] theorem mergeInto_key (e : Event) (now : PartTime) (n : NoticeEntry) : (mergeInto e now n).key = n.key := by
  simp [NoticeEntry.key]

/-- A merged entry counts one event more, up to 255. -/
theorem mergeInto_of_match {e : Event} {n : NoticeEntry} (hk : n.kind = e.kind) (hl : n.lane = e.lane) (hc : n.count ≤ 255)
    (now : PartTime) : mergeInto e now n =
      ⟨n.kind, n.lane, if n.count = 255 then 255 else n.count + 1, e.ticket, e.detail, e.rejectCode, now⟩ := by
  have hcount : satInc 255 n.count = if n.count = 255 then 255 else n.count + 1 := by
    unfold satInc; split_ifs <;> omega
  rw [mergeInto, if_pos (matches_iff.2 ⟨hk, hl⟩), Event.merge, hcount]

/-- Entries of another lane or kind stay as they are. -/
theorem map_mergeInto_of_no_match {e : Event} {ns : List NoticeEntry} (h : ∀ n ∈ ns, ¬(n.kind = e.kind ∧ n.lane = e.lane))
    (now : PartTime) : ns.map (mergeInto e now) = ns := by
  have hid : ∀ n ∈ ns, mergeInto e now n = n := fun n hn => if_neg (mt matches_iff.1 (h n hn))
  rw [List.map_congr_left hid, List.map_id']

/-! #### The three cases of R151 -/

theorem take_of_masked {e : Event} {u : NoticeUnit} (h : enabled u.mask e.kind = false) (now : PartTime) : u.take e now = u := by
  simp [NoticeUnit.take, h]

theorem take_of_match {e : Event} {u : NoticeUnit} (h : enabled u.mask e.kind = true)
    (hm : ∃ n ∈ u.entries, n.kind = e.kind ∧ n.lane = e.lane) (now : PartTime) :
    u.take e now = { u with entries := u.entries.map (mergeInto e now) } := by
  obtain ⟨n, hn, hmatch⟩ := hm
  have hany : u.entries.any e.matches = true := List.any_eq_true.2 ⟨n, hn, matches_iff.2 hmatch⟩
  exact (if_pos h).trans (if_pos hany)

theorem take_of_no_match {e : Event} {u : NoticeUnit} (h : enabled u.mask e.kind = true)
    (hm : ∀ n ∈ u.entries, ¬(n.kind = e.kind ∧ n.lane = e.lane)) (now : PartTime) :
    u.take e now = { u with entries := u.entries ++ [e.entry now] } := by
  have hany : ¬u.entries.any e.matches = true := by
    rw [List.any_eq_true]
    rintro ⟨n, hn, hmatch⟩
    exact hm n hn (matches_iff.1 hmatch)
  exact (if_pos h).trans (if_neg hany)

/-- Settles O15: the mask, the pending entry with the entries about it, and the tail. -/
theorem eventIsDiscardedMergedOrAppended : Obligations.EventIsDiscardedMergedOrAppended := by
  intro e now u
  refine ⟨fun hmasked => take_of_masked hmasked now, fun henabled =>
    ⟨?_, fun hnone => take_of_no_match henabled hnone now⟩⟩
  intro older n younger hentries hk hl hothers hc
  have holder := map_mergeInto_of_no_match (e := e) (fun m hm => hothers m (List.mem_append_left younger hm)) now
  have hyounger := map_mergeInto_of_no_match (e := e) (fun m hm => hothers m (List.mem_append_right older hm)) now
  rw [take_of_match henabled ⟨n, by simp [hentries], hk, hl⟩ now, hentries, List.map_append, List.map_cons, holder, hyounger,
    mergeInto_of_match hk hl hc now]

/-! ### The length of the list (R148, R150) -/

/-- The eight kinds that are raised for one lane (R148). -/
def laneKinds : List NoticeKind := [.done, .failed, .halted, .held, .idle, .spaceWait, .report, .overrun]

/-- The four kinds that are raised for the whole part (R148). -/
def partKinds : List NoticeKind := [.started, .linkReset, .intakeDrop, .linkDamage]

/-- The 68 pairs of lane and kind that R148 allows: eight kinds for each of eight lanes, four for the whole part. -/
def noticeKeys : List (NoticeKind × Option LaneId) :=
  laneKinds.flatMap (fun k => allLanes.map fun l => (k, some l)) ++ partKinds.map fun k => (k, none)

theorem mem_laneKinds {k : NoticeKind} (h : k.ofLane = true) : k ∈ laneKinds := by
  revert h; cases k <;> decide

theorem mem_partKinds {k : NoticeKind} (h : k.ofLane = false) : k ∈ partKinds := by
  revert h; cases k <;> decide

theorem mem_allLanes : ∀ l : LaneId, l ∈ allLanes := by decide

theorem mem_noticeKeys {n : NoticeEntry} (h : n.lane.isSome = n.kind.ofLane) : n.key ∈ noticeKeys := by
  unfold NoticeEntry.key
  cases hl : n.lane with
  | none => exact List.mem_append_right _ (List.mem_map_of_mem (mem_partKinds (by rw [← h, hl]; rfl)))
  | some l =>
    exact List.mem_append_left _
      (List.mem_flatMap.2 ⟨n.kind, mem_laneKinds (by rw [← h, hl]; rfl), List.mem_map_of_mem (mem_allLanes l)⟩)

/-- Settles O17: the keys of the entries are distinct, and each is one of the 68. -/
theorem noticeListNeverExceeds68Entries : Obligations.NoticeListNeverExceeds68Entries := by
  intro s h
  obtain ⟨hnodup, hentries⟩ := h
  have hsub : s.notices.entries.map NoticeEntry.key ⊆ noticeKeys := by
    intro key hkey
    obtain ⟨n, hn, rfl⟩ := List.mem_map.1 hkey
    obtain ⟨-, -, hlane, -⟩ := hentries n hn
    exact mem_noticeKeys hlane
  calc s.notices.entries.length = (s.notices.entries.map NoticeEntry.key).length := (List.length_map _).symm
    _ ≤ noticeKeys.length := (hnodup.subperm hsub).length_le
    _ = 68 := rfl

/-! ### The notice frame (R154, R170, R194, R195) -/

theorem laneByte_eq_elim (lane : Option LaneId) : laneByte lane = lane.elim 0xFF#8 fun l => BitVec.ofNat 8 l.val := by
  cases lane <;> rfl

/-- The twelve bytes of a notice body, one by one up to the event's time. -/
theorem body_eq (n : NoticeEntry) : n.body =
    [n.kind.code, n.lane.elim 0xFF#8 (fun l => BitVec.ofNat 8 l.val), BitVec.ofNat 8 n.count, BitVec.ofNat 8 (n.ticket / 256),
      BitVec.ofNat 8 n.ticket, n.detail.code, if n.rejectCode.isSome then 1#8 else 0#8, n.rejectCode.getD 0#8] ++
    bytesOf 4 n.time.toNat := by
  have hticket : bytesOf 2 n.ticket = [BitVec.ofNat 8 (n.ticket / 256), BitVec.ofNat 8 n.ticket] := by simp [bytesOf]
  rw [NoticeEntry.body, bytesOf_one, hticket, laneByte_eq_elim]
  rfl

theorem noticeStart_of_ready {s : State} {n : NoticeEntry} {rest : List NoticeEntry} (hlist : s.notices.entries = n :: rest)
    (hready : s.link.canStart && s.link.responses.isEmpty && !s.restartPending) : s.noticeStart =
      { s with notices := { s.notices with entries := rest, number := s.notices.number + 1 }
               link := { s.link with tx := .sendingNotice (controlFrame noticeKind s.notices.number n.body) } } := by
  rw [State.noticeStart, hlist]
  exact if_pos hready

theorem noticeStart_of_not_ready {s : State}
    (h : s.notices.entries = [] ∨ ¬(s.link.canStart && s.link.responses.isEmpty && !s.restartPending)) : s.noticeStart = s := by
  unfold State.noticeStart
  split
  · rfl
  · rename_i n rest hlist
    exact if_neg (h.resolve_left (by simp [hlist]))

/-- The conditions of R170 and R179 for a notice. -/
theorem noticeReady_iff (s : State) : (s.link.canStart && s.link.responses.isEmpty && !s.restartPending) = true ↔
    s.link.responses = [] ∧ s.link.tx = .free ∧ s.link.lowSinceReset = false ∧ s.restartPending = false := by
  simp only [ControlLink.canStart, Bool.and_eq_true, beq_iff_eq, Bool.not_eq_true', List.isEmpty_iff]
  tauto

/-- Settles O14: the list and the four conditions decide, and the body is spelled byte by byte. -/
theorem noticeStartSendsTheOldestEntry : Obligations.NoticeStartSendsTheOldestEntry := by
  intro s
  constructor
  · intro n rest hlist hresponses htx hlow hrestart
    have hstart := noticeStart_of_ready hlist ((noticeReady_iff s).2 ⟨hresponses, htx, hlow, hrestart⟩)
    rw [body_eq] at hstart
    exact congrArg Host.Outcome.next hstart
  · intro hout
    refine congrArg Host.Outcome.next (noticeStart_of_not_ready (hout.imp_right fun hnot hready => ?_))
    obtain ⟨hresponses, htx, hlow, hrestart⟩ := (noticeReady_iff s).1 hready
    simp [hresponses, htx, hlow, hrestart] at hnot

/-! ### The laws of the list, and what keeps them (R148, R150, R151, R152) -/

/-- What R148, R150 and R152 say of one entry under a mask. -/
def EntryLawful (mask : BitVec 16) (n : NoticeEntry) : Prop :=
  1 ≤ n.count ∧ n.count ≤ 255 ∧ n.lane.isSome = n.kind.ofLane ∧ enabled mask n.kind = true

/-- `NoticesLawful` as a law of the Notice Unit alone, so that it is carried along a state's `notices`. -/
def ListLawful (u : NoticeUnit) : Prop := (u.entries.map NoticeEntry.key).Nodup ∧ ∀ n ∈ u.entries, EntryLawful u.mask n

theorem noticesLawful_iff {s : State} : NoticesLawful s ↔ ListLawful s.notices := Iff.rfl

theorem entryLawful_entry {e : Event} {mask : BitVec 16} (he : e.lane.isSome = e.kind.ofLane)
    (henabled : enabled mask e.kind = true) (now : PartTime) : EntryLawful mask (e.entry now) :=
  ⟨Nat.le_refl 1, by simp [Event.entry], he, henabled⟩

theorem entryLawful_mergeInto {mask : BitVec 16} {n : NoticeEntry} (h : EntryLawful mask n) (e : Event) (now : PartTime) :
    EntryLawful mask (mergeInto e now n) := by
  obtain ⟨hpos, hmax, hlane, henabled⟩ := h
  have hsat : 1 ≤ satInc 255 n.count := by rw [satInc_eq_min]; omega
  refine ⟨?_, ?_, by simpa using hlane, by simpa using henabled⟩
  · unfold mergeInto; split_ifs <;> assumption
  · unfold mergeInto; split_ifs <;> [exact satInc_le 255 n.count; assumption]

/-- An event with a lane exactly for a lane kind keeps the laws: a merge keeps every key, and a new key is appended only when
no entry has it. -/
theorem listLawful_take {u : NoticeUnit} (h : ListLawful u) {e : Event} (he : e.lane.isSome = e.kind.ofLane) (now : PartTime) :
    ListLawful (u.take e now) := by
  rcases take_cases e now u with ⟨heq, -⟩ | ⟨-, -, heq⟩ | ⟨henabled, hnone, heq⟩ <;> rw [heq]
  · exact h
  · obtain ⟨hnodup, hentries⟩ := h
    have hkeys : (u.entries.map (mergeInto e now)).map NoticeEntry.key = u.entries.map NoticeEntry.key := by simp
    refine ⟨hkeys ▸ hnodup, fun n hn => ?_⟩
    obtain ⟨m, hm, rfl⟩ := List.mem_map.1 hn
    exact entryLawful_mergeInto (hentries m hm) e now
  · obtain ⟨hnodup, hentries⟩ := h
    have hfresh : (e.entry now).key ∉ u.entries.map NoticeEntry.key := by
      intro hkey
      obtain ⟨n, hn, hmatch⟩ := List.mem_map.1 hkey
      exact absurd (matches_iff_key.2 hmatch) (by simp [hnone n hn])
    refine ⟨?_, fun n hn => ?_⟩
    · rw [List.map_append, List.map_singleton, ← List.concat_eq_append]
      exact hnodup.concat hfresh
    · rcases List.mem_append.1 hn with hold | hnew
      · exact hentries n hold
      · rw [List.mem_singleton.1 hnew]; exact entryLawful_entry he henabled now

/-- Fewer entries under a mask that enables them are as lawful. -/
theorem listLawful_of_sublist {u v : NoticeUnit} (h : ListLawful u) (hsub : v.entries.Sublist u.entries)
    (hmask : ∀ n ∈ v.entries, enabled v.mask n.kind = true) : ListLawful v := by
  obtain ⟨hnodup, hentries⟩ := h
  refine ⟨hnodup.sublist (hsub.map _), fun n hn => ?_⟩
  obtain ⟨hpos, hmax, hlane, -⟩ := hentries n (hsub.subset hn)
  exact ⟨hpos, hmax, hlane, hmask n hn⟩

/-- Writing the mask removes the entries it newly masks, and none was masked before (R152). -/
theorem listLawful_setMask {u : NoticeUnit} (h : ListLawful u) (mask : BitVec 16) : ListLawful (u.setMask mask) := by
  refine listLawful_of_sublist h List.filter_sublist fun n hn => ?_
  obtain ⟨hmem, hkept⟩ := List.mem_filter.1 hn
  obtain ⟨-, -, -, hbefore⟩ := h.2 n hmem
  simpa [NoticeUnit.setMask, hbefore] using hkept

/-- After a reset the list holds STARTED alone, under a mask that enables every kind (R158, R180). -/
theorem listLawful_afterReset (c : ResetCause) (straps : BitVec 2) (hrxLow : Bool) (pending : List Instr) :
    ListLawful (State.afterReset c straps hrxLow pending).notices := by
  refine ⟨List.nodup_singleton _, fun n hn => ?_⟩
  obtain rfl : n = NoticeEntry.started c := List.mem_singleton.1 hn
  have hmask : enabled 0x0FFF#16 .started = true := by decide
  exact ⟨Nat.le_refl 1, by simp [NoticeEntry.started], rfl, hmask⟩

/-- While RESET_N is low the list is empty (R157, R181). -/
theorem listLawful_whileReset (speed : BitVec 2) (pending : List Instr) : ListLawful (State.whileReset speed pending).notices :=
  ⟨List.nodup_nil, fun _ hn => absurd hn List.not_mem_nil⟩

/-- RESET_N leaves a lawful list behind, whatever stood before (R157, R158, R181). -/
theorem listLawful_pinReset (s : State) (low : Bool) (pins : PinLevels) : ListLawful (s.pinReset low pins).notices := by
  unfold State.pinReset
  split_ifs <;> [exact listLawful_whileReset _ _; exact listLawful_afterReset _ _ _ _]

/-! #### Operations that leave the Notice Unit -/

section
variable (s : State) (l : LaneId)

@[simp] theorem hunt_notices : (s.hunt l).notices = s.notices := rfl

@[simp] theorem dropStartByte_notices : (s.dropStartByte l).notices = s.notices := by
  unfold State.dropStartByte; split_ifs <;> rfl

@[simp] theorem creditEarned_notices : (s.creditEarned l).notices = s.notices := by
  unfold State.creditEarned; split_ifs <;> rfl

@[simp] theorem startFrame_notices : (s.startFrame l).notices = s.notices := by
  unfold State.startFrame; split_ifs <;> [split; skip] <;> rfl

@[simp] theorem frameSent_notices : (s.frameSent l).notices = s.notices := by
  unfold State.frameSent; split_ifs <;> rfl

@[simp] theorem backoffExpiry_notices : (s.backoffExpiry l).notices = s.notices := by
  unfold State.backoffExpiry; split_ifs <;> rfl

@[simp] theorem dropBreakEnd_notices : (s.dropBreakEnd l).notices = s.notices := by
  unfold State.dropBreakEnd; split_ifs <;> rfl

@[simp] theorem controlStartByte_notices : s.controlStartByte.notices = s.notices := by
  unfold State.controlStartByte; split_ifs <;> rfl

@[simp] theorem responseStart_notices : s.responseStart.notices = s.notices := by
  unfold State.responseStart; split <;> [rfl; split_ifs] <;> rfl

@[simp] theorem flushAll_notices (q : List Ticket) : (s.flushAll q).notices = s.notices := by
  unfold State.flushAll
  induction q generalizing s with
  | nil => rfl
  | cons t q ih => rw [List.foldl_cons, ih, endRecord_notices]

@[simp] theorem flushLane_notices : (s.flushLane l).notices = s.notices := by
  unfold State.flushLane; simp

@[simp] theorem createRecord_notices (a : SubmitArgs) (t : Ticket) : (s.createRecord a t).notices = s.notices := by
  unfold State.createRecord; simp

@[simp] theorem retireRecord_notices (r : Record) : (s.retireRecord r).notices = s.notices := by
  unfold State.retireRecord; dsimp only; split_ifs <;> simp

end

section
variable (body : List Byte) (s : State)

theorem runIdentify_notices : (runIdentify body s).2.notices = s.notices := by
  unfold runIdentify; split <;> rfl

theorem runPartStatus_notices : (runPartStatus body s).2.notices = s.notices := by
  unfold runPartStatus; split <;> [rfl; (dsimp only; split_ifs <;> rfl)]

theorem runRestart_notices : (runRestart body s).2.notices = s.notices := by
  unfold runRestart; split <;> rfl

theorem runLaneConfig_notices : (runLaneConfig body s).2.notices = s.notices := by
  unfold runLaneConfig; split <;> [rfl; split_ifs] <;> rfl

theorem runLaneModeHold_notices : (runLaneModeHold body s).2.notices = s.notices := by
  unfold runLaneModeHold; split <;> [rfl; split] <;> simp

theorem runLaneStatus_notices : (runLaneStatus body s).2.notices = s.notices := by
  unfold runLaneStatus; split <;> [rfl; (dsimp only; split_ifs)] <;> rfl

theorem runLaneFlush_notices : (runLaneFlush body s).2.notices = s.notices := by
  unfold runLaneFlush; split <;> [rfl; (dsimp only; split_ifs)] <;> simp

theorem runLaneReseqForce_notices : (runLaneReseqForce body s).2.notices = s.notices := by
  unfold runLaneReseqForce; split <;> [rfl; split_ifs] <;> rfl

theorem runLaneReseqMark_notices : (runLaneReseqMark body s).2.notices = s.notices := by
  unfold runLaneReseqMark; split <;> [rfl; split_ifs] <;> rfl

theorem runDropReset_notices : (runDropReset body s).2.notices = s.notices := by
  unfold runDropReset; split <;> [rfl; split_ifs] <;> rfl

theorem runQuery_notices : (runQuery body s).2.notices = s.notices := by
  unfold runQuery; split <;> [rfl; split] <;> rfl

theorem runReplyRead_notices : (runReplyRead body s).2.notices = s.notices := by
  unfold runReplyRead; split <;> [rfl; split] <;> [rfl; split_ifs] <;> rfl

theorem runCollect_notices : (runCollect body s).2.notices = s.notices := by
  unfold runCollect; split <;> rfl

theorem runRetire_notices : (runRetire body s).2.notices = s.notices := by
  unfold runRetire; split <;> [rfl; split] <;> [rfl; split_ifs] <;> simp

theorem runReportTake_notices : (runReportTake body s).2.notices = s.notices := by
  unfold runReportTake; split <;> [rfl; split] <;> rfl

end

/-! #### Operations that hand events to the Notice Unit -/

section
variable {s : State} (h : ListLawful s.notices) (l : LaneId)
include h

theorem listLawful_raise {e : Event} (he : e.lane.isSome = e.kind.ofLane) : ListLawful (s.raise e).notices :=
  listLawful_take h he s.time

theorem listLawful_raiseLane {k : NoticeKind} (hk : k.ofLane = true) (t : Ticket) (d : Detail) :
    ListLawful (s.raiseLane l k t d).notices :=
  listLawful_raise h hk.symm

theorem listLawful_raisePart {k : NoticeKind} (hk : k.ofLane = false) (d : Detail) : ListLawful (s.raisePart k d).notices :=
  listLawful_raise h hk.symm

/-! The Block Pool and the lanes: SPACE_WAIT and IDLE. -/

theorem listLawful_spaceStep (r : Record) : ListLawful (s.spaceStep l r).notices := by
  rcases spaceStep_cases s l r with ⟨-, e⟩ | ⟨-, u, rfl, ⟨-, e⟩ | ⟨-, e⟩⟩ <;> rw [e]
  · exact h
  · exact listLawful_raiseLane (by simpa using h) l rfl _ _
  · simpa using h

theorem listLawful_judgeHead : ListLawful (s.judgeHead l).notices := by
  unfold State.judgeHead
  split <;> [exact h; split_ifs] <;> [exact listLawful_spaceStep h l _; exact h]

theorem listLawful_headChanged : ListLawful (s.headChanged l).notices := by
  rcases headChanged_cases s l with ⟨-, -, e⟩ | ⟨-, -, e⟩ | ⟨-, e⟩ <;> rw [e]
  · exact listLawful_judgeHead h l
  · simpa using h
  · exact h

theorem listLawful_stopBusy (t : Ticket) : ListLawful (s.stopBusy l t).notices := by
  rcases stopBusy_cases s l t with ⟨-, e⟩ | ⟨-, e⟩ <;> rw [e]
  · exact listLawful_judgeHead (by simpa using h) l
  · exact listLawful_raiseLane h l rfl _ _

/-! The outcomes of an attempt: FAILED, HALTED, DONE and HELD. -/

theorem listLawful_failRecord (t : Ticket) (cause : Cause) (reject : Option Byte) (unsure : Bool) :
    ListLawful (s.failRecord l t cause reject unsure).notices := by
  have hfailed : ListLawful (((((s.endRecord t .failed cause reject).grantScan.markResync l unsure).onCounters l fun c =>
      { c with failed := satInc 65535 c.failed }).raise ⟨.failed, some l, t, .cause cause, reject⟩).notices) :=
    listLawful_raise (by simpa using h) rfl
  unfold State.failRecord
  dsimp only
  refine listLawful_stopBusy ?_ l t
  split_ifs <;> [exact listLawful_raise hfailed rfl; exact hfailed]

theorem listLawful_cancelActive (t : Ticket) (unsure : Bool) : ListLawful (s.cancelActive l t unsure).notices :=
  listLawful_stopBusy (by simpa using h) l t

theorem listLawful_takeMiss (reply : Bool) : ListLawful (s.takeMiss l reply).notices := by
  unfold State.takeMiss
  split <;> [exact h; split] <;> [exact h; dsimp only]
  split
  · exact listLawful_cancelActive (by simpa using h) l _ _
  · split
    · exact listLawful_failRecord (by simpa using h) l _ _ _ _
    · exact h

theorem listLawful_takeBusy (t : Ticket) (r : Record) : ListLawful (s.takeBusy l t r).notices := by
  unfold State.takeBusy
  dsimp only
  split_ifs
  · exact listLawful_cancelActive (by simpa using h) l _ _
  · exact listLawful_failRecord (by simpa using h) l _ _ _ _
  · exact h

theorem listLawful_takeReject (t : Ticket) (code : Byte) : ListLawful (s.takeReject l t code).notices :=
  listLawful_failRecord (by simpa using h) l _ _ _ _

theorem listLawful_takeOversize (t : Ticket) (r : Record) : ListLawful (s.takeOversize l t r).notices :=
  listLawful_failRecord (by simpa using h) l _ _ _ _

theorem listLawful_completeActive (t : Ticket) (r : Record) (n : Nat) : ListLawful (s.completeActive l t r n).notices := by
  unfold State.completeActive
  dsimp only
  refine listLawful_stopBusy ?_ l t
  split
  · exact listLawful_raiseLane (listLawful_raiseLane (by simpa using h) l rfl _ _) l rfl _ _
  · exact listLawful_raiseLane (by simpa using h) l rfl _ _

theorem listLawful_haltAbort (t : Ticket) : ListLawful (s.haltAbort l t).notices := by
  unfold State.haltAbort
  split
  · exact h
  · dsimp only
    refine listLawful_stopBusy ?_ l t
    rw [grantScan_notices, setMode_notices]
    split_ifs <;> simpa using h

/-! The drop line: outcomes of answers, REPORT and OVERRUN. -/

theorem listLawful_judgeAnswer (control : Byte) (payload : List Byte) : ListLawful (s.judgeAnswer l control payload).notices := by
  unfold State.judgeAnswer
  split_ifs <;> [skip; exact h]
  split <;> [exact h; split] <;> [exact h; split]
  · exact listLawful_completeActive h l _ _ _
  · exact listLawful_takeBusy h l _ _
  · exact listLawful_takeReject h l _ _
  · split_ifs
    · exact listLawful_completeActive h l _ _ _
    · exact listLawful_takeOversize h l _ _
    · exact listLawful_completeActive h l _ _ _
  · exact h
  · exact h

theorem listLawful_damagedFrame (expected reply : Bool) : ListLawful (s.damagedFrame l expected reply).notices := by
  unfold State.damagedFrame
  split_ifs <;> [exact listLawful_takeMiss (by simpa using h) l reply; exact h]

theorem listLawful_arriveReport (bytes : List Byte) : ListLawful (s.arriveReport l bytes).notices := by
  unfold State.arriveReport
  split_ifs <;> exact listLawful_raiseLane h l rfl _ _

theorem listLawful_dropHeader (control lenHi lenLo : Byte) : ListLawful (s.dropHeader l control lenHi lenLo).notices := by
  unfold State.dropHeader
  split <;> [skip; exact h]
  dsimp only
  split_ifs
  · exact h
  · exact h
  · exact listLawful_damagedFrame (by simpa using h) l _ _
  · exact listLawful_damagedFrame (by simpa using h) l _ _

theorem listLawful_cutFrame (taken : List Byte) : ListLawful (s.cutFrame l taken).notices := by
  unfold State.cutFrame
  split <;> [split_ifs; split_ifs; skip; skip]
  · exact h
  · exact h
  · exact listLawful_damagedFrame (by simpa using h) l _ _
  · exact h
  · exact h
  · exact h

theorem listLawful_gapCut (cut : GapCut) : ListLawful (s.gapCut l cut).notices := by
  rcases gapCut_cases s l cut with ⟨-, e⟩ | ⟨-, e⟩ <;> rw [e]
  · exact h
  · exact listLawful_cutFrame h l cut.taken

theorem listLawful_dropFrameEnd (chars : List Byte) : ListLawful (s.dropFrameEnd l chars).notices := by
  have hstored (f : RxFrame) (bytes : List Byte) : ListLawful ((s.storeReply l f bytes).hunt l).notices := by simpa using h
  unfold State.dropFrameEnd
  split <;> [skip; exact h]
  dsimp only
  split_ifs <;> [split; skip; exact h]
  · exact listLawful_judgeAnswer (hstored _ _) l _ _
  · exact hstored _ _
  · exact listLawful_arriveReport (hstored _ _) l _
  · exact listLawful_damagedFrame (hstored _ _) l _ _

/-! The timed steps of a lane. -/

theorem listLawful_releaseReached : ListLawful (s.releaseReached l).notices := by
  unfold State.releaseReached
  split_ifs <;> [exact listLawful_judgeHead h l; exact h]

theorem listLawful_ackExpiry : ListLawful (s.ackExpiry l).notices := by
  unfold State.ackExpiry
  split_ifs <;> [exact listLawful_takeMiss (by simpa using h) l false; exact h]

theorem listLawful_dropResetEnd : ListLawful (s.dropResetEnd l).notices := by
  unfold State.dropResetEnd
  split_ifs <;> [exact listLawful_stopBusy (by simpa using h) l 0; exact h]

theorem listLawful_settleLane : ListLawful (s.settleLane l).notices := by
  have hcredit : ListLawful (s.creditEarned l).notices := by simpa using h
  have hack := listLawful_ackExpiry hcredit l
  exact listLawful_releaseReached (listLawful_dropResetEnd (by simpa using hack) l) l

/-! The control link: LINK_DAMAGE, INTAKE_DROP, LINK_RESET and HELD, a notice frame, and the resets. -/

theorem listLawful_linkDamage (why : DamageReason) : ListLawful (s.linkDamage why).notices := listLawful_raisePart h rfl _

theorem listLawful_controlHeader (lenHi lenLo : Byte) : ListLawful (s.controlHeader lenHi lenLo).notices := by
  unfold State.controlHeader
  split_ifs <;> [exact h; exact listLawful_linkDamage h _; exact h]

theorem listLawful_goodRequest (q : Request) : ListLawful (s.goodRequest q).notices := by
  unfold State.goodRequest
  dsimp only
  split_ifs <;> [exact h; exact listLawful_raisePart h rfl _]

theorem listLawful_controlFrameEnd (chars : List Byte) : ListLawful (s.controlFrameEnd chars).notices := by
  unfold State.controlFrameEnd
  split <;> [skip; exact h]
  dsimp only
  split_ifs <;> [skip; exact listLawful_linkDamage h _; exact h]
  split <;> [split_ifs; exact h]
  · exact listLawful_goodRequest h _
  · exact listLawful_linkDamage h _

theorem listLawful_controlGap : ListLawful s.controlGap.notices := by
  unfold State.controlGap
  split_ifs <;> [exact listLawful_linkDamage h _; exact h]

theorem listLawful_linkBreak : ListLawful s.linkBreak.notices := by
  rcases linkBreak_cases s with ⟨-, e⟩ | ⟨-, -, e⟩ | ⟨-, -, e⟩ <;> rw [e]
  · exact h
  · exact listLawful_afterReset _ _ _ _
  · exact h

theorem listLawful_linkReset : ListLawful s.linkReset.notices := by
  unfold State.linkReset
  split_ifs <;> [exact listLawful_raisePart h rfl _; exact h]

theorem listLawful_seeHrx (hrx : HrxSample) : ListLawful (s.seeHrx hrx).notices := by
  unfold State.seeHrx
  split_ifs <;> [exact listLawful_linkReset h; exact h]

theorem listLawful_holdQuiet : ListLawful (s.holdQuiet l).notices := by
  unfold State.holdQuiet
  split_ifs <;> [exact listLawful_raiseLane (by simpa using h) l rfl _ _; exact h]

theorem listLawful_noticeStart : ListLawful s.noticeStart.notices := by
  unfold State.noticeStart
  split <;> [exact h; split_ifs] <;> [skip; exact h]
  rename_i n rest hlist hready
  have hsub : rest.Sublist s.notices.entries := hlist ▸ List.sublist_cons_self n rest
  refine listLawful_of_sublist h hsub fun m hm => ?_
  obtain ⟨-, -, -, henabled⟩ := h.2 m (hsub.subset hm)
  exact henabled

theorem listLawful_controlFrameSent : ListLawful s.controlFrameSent.notices := by
  rcases controlFrameSent_cases s with ⟨-, e⟩ | ⟨-, -, e⟩ | ⟨-, e⟩ <;> rw [e]
  · exact h
  · exact listLawful_afterReset _ _ _ _
  · exact h

/-! The requests. -/

theorem listLawful_enterHalt : ListLawful (s.enterHalt l).notices := by
  unfold State.enterHalt
  split <;> [exact listLawful_haltAbort h l _; simpa using h]

theorem listLawful_enqueue (a : SubmitArgs) (t : Ticket) : ListLawful (s.enqueue a t).notices := by
  unfold State.enqueue
  dsimp only
  split_ifs <;> [exact listLawful_headChanged (by simpa using h) a.lane; exact h]

theorem listLawful_cancelQueued (r : Record) : ListLawful (s.cancelQueued r).notices := by
  unfold State.cancelQueued
  dsimp only
  split_ifs
  · exact listLawful_headChanged (by simpa using h) r.lane
  · exact listLawful_headChanged (by simpa using h) r.lane
  · simpa using h

theorem listLawful_markActive (r : Record) : ListLawful (s.markActive r).notices := by
  unfold State.markActive
  dsimp only
  split
  · exact listLawful_cancelActive (by simpa using h) r.lane _ _
  · exact listLawful_cancelActive (by simpa using h) r.lane _ _
  · exact h

variable (body : List Byte)

theorem listLawful_runPartConfig : ListLawful (runPartConfig body s).2.notices := by
  unfold runPartConfig
  split <;> [exact h; exact listLawful_setMask h _]

theorem listLawful_runLaneModePass : ListLawful (runLaneModePass body s).2.notices := by
  unfold runLaneModePass
  split <;> [exact h; split] <;> [(dsimp only; split_ifs); exact h; exact h]
  · exact h
  · exact listLawful_judgeHead (by simpa using h) _

theorem listLawful_runLaneModeHalt : ListLawful (runLaneModeHalt body s).2.notices := by
  unfold runLaneModeHalt
  split <;> [exact h; split] <;> [exact h; exact listLawful_enterHalt h _; exact listLawful_enterHalt h _]

theorem listLawful_runSubmit : ListLawful (runSubmit body s).2.notices := by
  unfold runSubmit
  split <;> [exact h; split_ifs] <;> [exact h; exact h; exact h; split] <;> [exact h; skip]
  exact listLawful_enqueue (by simpa using h) _ _

theorem listLawful_runCancel : ListLawful (runCancel body s).2.notices := by
  unfold runCancel
  split <;> [exact h; split] <;> [exact h; split]
  · exact listLawful_cancelQueued h _
  · exact listLawful_markActive h _
  · exact h
  · exact h
  · exact h

end

/-! ### Every step (R148, R149, R150, R151, R152, R158) -/

/-- What the operation of one lane keeps, those of several lanes in turn keep. -/
theorem listLawful_foldl {g : State → LaneId → State} (hg : ∀ u l, ListLawful u.notices → ListLawful (g u l).notices)
    (ls : List LaneId) {s : State} (h : ListLawful s.notices) : ListLawful (ls.foldl g s).notices := by
  induction ls generalizing s with
  | nil => exact h
  | cons l ls ih => exact ih (hg s l h)

section
variable {s : State} (h : ListLawful s.notices)
include h

theorem listLawful_quietExpiry : ListLawful s.quietExpiry.notices := by
  unfold State.quietExpiry
  split_ifs
  · rw [grantScan_notices]
    exact listLawful_foldl (fun _ l hu => listLawful_holdQuiet hu l) allLanes h
  · exact h

/-- The timed steps that an advance takes first, in their order (log 4). -/
theorem listLawful_settle (p : TickSample) : ListLawful (s.settle p).notices := by
  unfold State.settle
  dsimp only
  refine listLawful_foldl (fun u l hu => (startFrame_notices u l).symm ▸ hu) _ ?_
  refine listLawful_foldl (fun _ l hu => listLawful_gapCut hu l _) _ ?_
  refine listLawful_seeHrx (listLawful_linkBreak (listLawful_controlGap (listLawful_quietExpiry ?_))) p.hrx
  exact listLawful_foldl (fun _ l hu => listLawful_settleLane hu l) _ h

/-- A request command keeps the laws when its meaning on every body does. -/
theorem listLawful_takeRequest {row : RequestRow} {run : List Byte → State → Reply × State}
    (hrun : ∀ body u, ListLawful u.notices → ListLawful (run body u).2.notices) :
    ListLawful (s.takeRequest row run).notices := by
  rcases takeRequest_cases s row run with e | ⟨q, rest, -, -, e⟩ <;> rw [e]
  · exact h
  · exact hrun q.body (s.taken rest) h

/-- Every command completes with a lawful list. -/
theorem listLawful_exec (i : Instr) : ∃ t, exec i s = .next t ∧ ListLawful t.notices := by
  have same {t : State} (e : t.notices = s.notices) : ListLawful t.notices := e ▸ h
  have request {row : RequestRow} {run : List Byte → State → Reply × State}
      (hrun : ∀ body u, (run body u).2.notices = u.notices) : ListLawful (s.takeRequest row run).notices :=
    listLawful_takeRequest h fun body u hu => (hrun body u).symm ▸ hu
  cases i with
  | identify => exact ⟨_, rfl, request runIdentify_notices⟩
  | partStatus => exact ⟨_, rfl, request runPartStatus_notices⟩
  | partConfig => exact ⟨_, rfl, listLawful_takeRequest h fun body _ hu => listLawful_runPartConfig hu body⟩
  | restart => exact ⟨_, rfl, request runRestart_notices⟩
  | laneConfig => exact ⟨_, rfl, request runLaneConfig_notices⟩
  | laneModeHold => exact ⟨_, rfl, request runLaneModeHold_notices⟩
  | laneModePass => exact ⟨_, rfl, listLawful_takeRequest h fun body _ hu => listLawful_runLaneModePass hu body⟩
  | laneModeHalt => exact ⟨_, rfl, listLawful_takeRequest h fun body _ hu => listLawful_runLaneModeHalt hu body⟩
  | laneStatus => exact ⟨_, rfl, request runLaneStatus_notices⟩
  | laneFlush => exact ⟨_, rfl, request runLaneFlush_notices⟩
  | laneReseqForce => exact ⟨_, rfl, request runLaneReseqForce_notices⟩
  | laneReseqMark => exact ⟨_, rfl, request runLaneReseqMark_notices⟩
  | dropReset => exact ⟨_, rfl, request runDropReset_notices⟩
  | submit => exact ⟨_, rfl, listLawful_takeRequest h fun body _ hu => listLawful_runSubmit hu body⟩
  | cancel => exact ⟨_, rfl, listLawful_takeRequest h fun body _ hu => listLawful_runCancel hu body⟩
  | query => exact ⟨_, rfl, request runQuery_notices⟩
  | replyRead => exact ⟨_, rfl, request runReplyRead_notices⟩
  | collect => exact ⟨_, rfl, request runCollect_notices⟩
  | retire => exact ⟨_, rfl, request runRetire_notices⟩
  | reportTake => exact ⟨_, rfl, request runReportTake_notices⟩
  | unknownRequest => exact ⟨_, rfl, request fun _ _ => rfl⟩
  | controlHeaderTaken lenHi lenLo => exact ⟨_, rfl, listLawful_controlHeader h lenHi lenLo⟩
  | controlFrameEnd chars => exact ⟨_, rfl, listLawful_controlFrameEnd h chars⟩
  | controlFrameGap => exact ⟨_, rfl, listLawful_controlGap h⟩
  | linkBreak => exact ⟨_, rfl, listLawful_linkBreak h⟩
  | linkReset => exact ⟨_, rfl, listLawful_linkReset h⟩
  | hostQuietExpiry => exact ⟨_, rfl, listLawful_quietExpiry h⟩
  | responseStart => exact ⟨_, rfl, same (responseStart_notices s)⟩
  | noticeStart => exact ⟨_, rfl, listLawful_noticeStart h⟩
  | controlFrameSent => exact ⟨_, rfl, listLawful_controlFrameSent h⟩
  | restartReset pins =>
    refine ⟨_, rfl, ?_⟩
    split_ifs <;> [exact listLawful_afterReset _ _ _ _; exact h]
  | pinReset low pins => exact ⟨_, rfl, listLawful_pinReset s low pins⟩
  | tick pins =>
    refine ⟨_, rfl, ?_⟩
    split_ifs <;> [exact h; (rw [advance_notices]; exact listLawful_settle h pins)]
  | slotCreditEarned lane => exact ⟨_, rfl, same (creditEarned_notices s lane)⟩
  | releaseTimeReached lane => exact ⟨_, rfl, listLawful_releaseReached h lane⟩
  | transmissionStart lane => exact ⟨_, rfl, same (startFrame_notices s lane)⟩
  | dropFrameSent lane => exact ⟨_, rfl, same (frameSent_notices s lane)⟩
  | dropHeaderTaken lane control lenHi lenLo => exact ⟨_, rfl, listLawful_dropHeader h lane control lenHi lenLo⟩
  | dropGapCut lane cut => exact ⟨_, rfl, listLawful_gapCut h lane cut⟩
  | dropFrameEnd lane chars => exact ⟨_, rfl, listLawful_dropFrameEnd h lane chars⟩
  | ackTimeout lane => exact ⟨_, rfl, listLawful_ackExpiry h lane⟩
  | backoffExpiry lane => exact ⟨_, rfl, same (backoffExpiry_notices s lane)⟩
  | dropResetBreakEnd lane => exact ⟨_, rfl, same (dropBreakEnd_notices s lane)⟩
  | dropResetEnd lane => exact ⟨_, rfl, listLawful_dropResetEnd h lane⟩
  | dropStartByte lane => exact ⟨_, rfl, same (dropStartByte_notices s lane)⟩
  | controlStartByte => exact ⟨_, rfl, same (controlStartByte_notices s)⟩
  | dropFramingFault lane taken => exact ⟨_, rfl, listLawful_cutFrame h lane taken⟩

end

/-- Settles O16: an idle step leaves the state, and every command completes with a lawful list. -/
theorem everyStepKeepsTheNoticeLaws : Obligations.EveryStepKeepsTheNoticeLaws := by
  intro s t h hstep
  unfold step at hstep
  split at hstep
  · exact Host.Outcome.next.inj hstep ▸ h
  · rename_i c rest _
    obtain ⟨u, hu, hlaw⟩ := listLawful_exec (s := { s with pending := rest }) (noticesLawful_iff.1 h) c
    obtain rfl : u = t := Host.Outcome.next.inj (hu.symm.trans hstep)
    exact noticesLawful_iff.2 hlaw

end Sys2Proof.Proofs.Notices
end

section
/-! PROOFS. The requests to the part: when a request command acts, which bodies the first two checks refuse, and IDENTIFY,
PART_STATUS, PART_CONFIG and RESTART. -/

namespace Sys2Proof.Proofs.PartRequests

-- One theorem at a time: each elaboration thread takes 1 GiB of the check's memory limit.
set_option Elab.async false

open Sys2Proof Sys2Proof.Machine Sys2Proof.Proofs.Messages Sys2Proof.Proofs.LaneModes Sys2Proof.Proofs.DropLine

/-! ### The rows of the requests: their commands and their meanings (R167, R197; log 6) -/

/-- The command of a row. -/
def rowCommand : RequestRow → Instr
  | .identify => .identify | .partStatus => .partStatus | .partConfig => .partConfig | .restart => .restart
  | .laneConfig => .laneConfig | .laneModeHold => .laneModeHold | .laneModePass => .laneModePass
  | .laneModeHalt => .laneModeHalt | .laneStatus => .laneStatus | .laneFlush => .laneFlush
  | .laneReseqForce => .laneReseqForce | .laneReseqMark => .laneReseqMark | .dropReset => .dropReset
  | .submit => .submit | .cancel => .cancel | .query => .query | .replyRead => .replyRead
  | .collect => .collect | .retire => .retire | .reportTake => .reportTake | .unknown => .unknownRequest

/-- What the command of a row does with the body that it takes. -/
def rowMeaning : RequestRow → List Byte → State → Reply × State
  | .identify => runIdentify | .partStatus => runPartStatus | .partConfig => runPartConfig | .restart => runRestart
  | .laneConfig => runLaneConfig | .laneModeHold => runLaneModeHold | .laneModePass => runLaneModePass
  | .laneModeHalt => runLaneModeHalt | .laneStatus => runLaneStatus | .laneFlush => runLaneFlush
  | .laneReseqForce => runLaneReseqForce | .laneReseqMark => runLaneReseqMark | .dropReset => runDropReset
  | .submit => runSubmit | .cancel => runCancel | .query => runQuery | .replyRead => runReplyRead
  | .collect => runCollect | .retire => runRetire | .reportTake => runReportTake | .unknown => runUnknown

theorem requestCommand_eq (body : List Byte) : requestCommand body = rowCommand (requestRow body) := by
  unfold requestCommand
  cases requestRow body <;> rfl

theorem exec_rowCommand (row : RequestRow) (s : State) :
    exec (rowCommand row) s = .next (s.takeRequest row (rowMeaning row)) := by cases row <;> rfl

/-- Every row of a request. -/
def requestRows : List RequestRow :=
  [.identify, .partStatus, .partConfig, .restart, .laneConfig, .laneModeHold, .laneModePass, .laneModeHalt, .laneStatus,
   .laneFlush, .laneReseqForce, .laneReseqMark, .dropReset, .submit, .cancel, .query, .replyRead, .collect, .retire,
   .reportTake, .unknown]

theorem requestCommands_eq : requestCommands = requestRows.map rowCommand := rfl

/-- Settles O3: a request command that acts takes the oldest request, and that is one of its own row. -/
theorem requestsWaitForTheProcessor : Obligations.RequestsWaitForTheProcessor := by
  intro s c hc hwait
  rw [requestCommands_eq] at hc
  obtain ⟨row, -, rfl⟩ := List.mem_map.1 hc
  rw [exec_rowCommand]
  rcases takeRequest_cases s row (rowMeaning row) with hidle | ⟨q, rest, htaken, hrow, -⟩
  · rw [hidle]
  · exact absurd (by rw [requestCommand_eq, hrow]) (hwait q rest htaken)

/-! ### Bodies of the wrong length (R168, R187, R189)

Each reader takes bodies of one length alone. -/

section
variable {c : Byte} {args : List Byte}

theorem noArgs_of_length (h : args.length ≠ 0) : noArgs (c :: args) = .error .badLength := by
  unfold noArgs; split <;> simp_all

theorem partStatusArgs_of_length (h : args.length ≠ 1) : partStatusArgs (c :: args) = .error .badLength := by
  unfold partStatusArgs; split <;> simp_all

theorem partConfigArgs_of_length (h : args.length ≠ 4) : partConfigArgs (c :: args) = .error .badLength := by
  unfold partConfigArgs; split <;> simp_all

theorem laneConfigArgs_of_length (h : args.length ≠ 20) : laneConfigArgs (c :: args) = .error .badLength := by
  unfold laneConfigArgs; split <;> simp_all

theorem laneModeArgs_of_length (h : args.length ≠ 2) : laneModeArgs (c :: args) = .error .badLength := by
  unfold laneModeArgs; split <;> simp_all

theorem laneStatusArgs_of_length (h : args.length ≠ 2) : laneStatusArgs (c :: args) = .error .badLength := by
  unfold laneStatusArgs; split <;> simp_all

theorem laneReseqArgs_of_args_length (h : args.length ≠ 3) : laneReseqArgs (c :: args) = .error .badLength := by
  unfold laneReseqArgs; split <;> simp_all

theorem ticketArgs_of_length (h : args.length ≠ 2) : ticketArgs (c :: args) = .error .badLength := by
  unfold ticketArgs; split <;> simp_all

theorem replyReadArgs_of_length (h : args.length ≠ 6) : replyReadArgs (c :: args) = .error .badLength := by
  unfold replyReadArgs; split <;> simp_all

theorem collectArgs_of_length (h : args.length ≠ 2) : collectArgs (c :: args) = .error .badLength := by
  unfold collectArgs; split <;> simp_all

end

/-- The reader of a SUBMIT body looks for the payload's length where the table of R189 does. -/
theorem submitArgs_of_length {body : List Byte} (h : submitLengthOk body = false) : submitArgs body = .error .badLength := by
  unfold submitArgs
  split
  · rename_i c lane flags rest
    dsimp only
    split
    · rename_i p1 p0 payload hrest
      refine if_neg fun hlen => ?_
      have hlong : rest.length = timeBytes flags + limitBytes flags + 2 + payload.length := by
        have := congrArg List.length hrest
        simp only [List.length_drop, List.length_cons] at this
        omega
      have hdrop : (c :: lane :: flags :: rest).drop (3 + timeBytes flags + limitBytes flags) = p1 :: p0 :: payload := by
        rw [Nat.add_assoc, ← List.drop_drop]
        exact hrest
      have hok : submitLengthOk (c :: lane :: flags :: rest) =
          (decide (3 + timeBytes flags + limitBytes flags + 2 ≤ rest.length + 3) &&
            rest.length + 3 == 3 + timeBytes flags + limitBytes flags + 2 +
              natOf (((c :: lane :: flags :: rest).drop (3 + timeBytes flags + limitBytes flags)).take 2)) := rfl
      rw [h, hdrop, List.take_succ_cons, List.take_succ_cons, List.take_zero, ← hlen, hlong] at hok
      simp at hok
      omega
    · rfl
  · rfl

/-- How many bytes stand behind the code of a row's body (R187); SUBMIT has its own judgement, and an unknown code none. -/
def rowArgs : RequestRow → Option Nat
  | .identify | .restart => some 0
  | .partStatus | .laneFlush | .dropReset | .reportTake => some 1
  | .laneModeHold | .laneModePass | .laneModeHalt | .laneStatus | .cancel | .query | .collect | .retire => some 2
  | .laneReseqForce | .laneReseqMark => some 3
  | .partConfig => some 4
  | .replyRead => some 6
  | .laneConfig => some 20
  | .submit | .unknown => none

/-- A row refuses every body of another length, and changes nothing. -/
theorem rowMeaning_of_length {row : RequestRow} {n : Nat} (hrow : rowArgs row = some n) {args : List Byte}
    (h : args.length ≠ n) (c : Byte) (s : State) : rowMeaning row (c :: args) s = (.refuse .badLength, s) := by
  cases row <;> cases hrow
  case identify => simp only [rowMeaning, runIdentify, noArgs_of_length h]
  case partStatus => simp only [rowMeaning, runPartStatus, partStatusArgs_of_length h]
  case partConfig => simp only [rowMeaning, runPartConfig, partConfigArgs_of_length h]
  case restart => simp only [rowMeaning, runRestart, noArgs_of_length h]
  case laneConfig => simp only [rowMeaning, runLaneConfig, laneConfigArgs_of_length h]
  case laneModeHold => simp only [rowMeaning, runLaneModeHold, laneModeArgs_of_length h]
  case laneModePass => simp only [rowMeaning, runLaneModePass, laneModeArgs_of_length h]
  case laneModeHalt => simp only [rowMeaning, runLaneModeHalt, laneModeArgs_of_length h]
  case laneStatus => simp only [rowMeaning, runLaneStatus, laneStatusArgs_of_length h]
  case laneFlush => simp only [rowMeaning, runLaneFlush, laneArgs_of_length h]
  case laneReseqForce => simp only [rowMeaning, runLaneReseqForce, laneReseqArgs_of_args_length h]
  case laneReseqMark => simp only [rowMeaning, runLaneReseqMark, laneReseqArgs_of_args_length h]
  case dropReset => simp only [rowMeaning, runDropReset, laneArgs_of_length h]
  case cancel => simp only [rowMeaning, runCancel, ticketArgs_of_length h]
  case query => simp only [rowMeaning, runQuery, ticketArgs_of_length h]
  case replyRead => simp only [rowMeaning, runReplyRead, replyReadArgs_of_length h]
  case collect => simp only [rowMeaning, runCollect, collectArgs_of_length h]
  case retire => simp only [rowMeaning, runRetire, ticketArgs_of_length h]
  case reportTake => simp only [rowMeaning, runReportTake, laneArgs_of_length h]

theorem rowArgs_laneMode (args : List Byte) : rowArgs (requestRow (0x11 :: args)) = some 2 := by
  change rowArgs (if _ then .laneModePass else if _ then .laneModeHalt else .laneModeHold) = _
  split_ifs <;> rfl

theorem rowArgs_laneReseq (args : List Byte) : rowArgs (requestRow (0x14 :: args)) = some 3 := by
  change rowArgs (if _ then .laneReseqMark else .laneReseqForce) = _
  split_ifs <;> rfl

/-- The rows have the lengths of R187. -/
theorem rowArgs_of_mem {c : Byte} {n : Nat} (h : (c, n) ∈ bodyLengths) (args : List Byte) :
    rowArgs (requestRow (c :: args)) = some (n - 1) := by
  simp only [bodyLengths, List.mem_cons, Prod.mk.injEq, List.not_mem_nil, or_false] at h
  rcases h with ⟨rfl, rfl⟩ | ⟨rfl, rfl⟩ | ⟨rfl, rfl⟩ | ⟨rfl, rfl⟩ | ⟨rfl, rfl⟩ | ⟨rfl, rfl⟩ | ⟨rfl, rfl⟩ | ⟨rfl, rfl⟩ |
    ⟨rfl, rfl⟩ | ⟨rfl, rfl⟩ | ⟨rfl, rfl⟩ | ⟨rfl, rfl⟩ | ⟨rfl, rfl⟩ | ⟨rfl, rfl⟩ | ⟨rfl, rfl⟩ | ⟨rfl, rfl⟩
  exacts [rfl, rfl, rfl, rfl, rfl, rowArgs_laneMode args, rfl, rfl, rowArgs_laneReseq args, rfl, rfl, rfl, rfl, rfl, rfl, rfl]

theorem exists_bodyLength : ∀ c ∈ requestCodes, c = 0x20#8 ∨ ∃ n ∈ List.range 22, (c, n) ∈ bodyLengths := by decide

/-- Every code but SUBMIT's is refused by its row when its body has another length than R187 gives. -/
theorem rowMeaning_of_lengthOk {c : Byte} {args : List Byte} (hc : c ∈ requestCodes) (hs : c ≠ 0x20#8)
    (h : lengthOk (c :: args) = false) (s : State) :
    rowMeaning (requestRow (c :: args)) (c :: args) s = (.refuse .badLength, s) := by
  obtain ⟨n, -, hn⟩ := (exists_bodyLength c hc).resolve_left hs
  have hother : (c, args.length + 1) ∉ bodyLengths := by
    simpa [lengthOk, hs] using h
  refine rowMeaning_of_length (rowArgs_of_mem hn args) (fun hlen => hother ?_) c s
  have hpos : n ≠ 0 := by
    rintro rfl
    revert hn
    simp [bodyLengths]
  rwa [hlen, Nat.sub_one_add_one hpos]

/-- A first byte that is no code of R197 falls under no request's row. -/
theorem requestRow_of_not_mem {c : Byte} (hc : c ∉ requestCodes) (args : List Byte) : requestRow (c :: args) = .unknown := by
  have hcode : ∀ n, c.toNat = n → BitVec.ofNat 8 n ∉ requestCodes := by
    rintro _ rfl
    rwa [BitVec.ofNat_toNat, BitVec.setWidth_eq]
  unfold requestRow
  split
  case h_18 => rfl
  all_goals exact (hcode _ ‹_› (by decide)).elim

/-- Settles O22: SUBMIT by its own reader, every other code by the length of its row, and what is left by the unknown row. -/
theorem wrongLengthAndUnknownCodeAreRefused : Obligations.WrongLengthAndUnknownCodeAreRefused := by
  intro s tag code args rest h
  refine ⟨fun hcode hlen => ?_, fun hcode => ?_⟩
  · by_cases hs : code = 0x20#8
    · subst hs
      have hargs : submitArgs (0x20 :: args) = .error .badLength := submitArgs_of_length hlen
      have hrun : runSubmit (0x20 :: args) (s.taken rest) = (refuseSubmit .badLength, s.taken rest) := by
        rw [runSubmit, hargs]
      exact exec_submit_of_run h hrun
    · rw [requestCommand_eq, exec_rowCommand, takeRequest_of_run h rfl (rowMeaning_of_lengthOk hcode hs hlen (s.taken rest)),
        refusal, List.headD_cons, if_neg hs]
      rfl
  · exact congrArg Host.Outcome.next 
      (takeRequest_of_run (r := .refuse .unknownRequest) h (requestRow_of_not_mem hcode args) rfl)

/-! ### IDENTIFY and RESTART (R178, R182) -/

section
variable {s u : State} {tag : Byte} {args : List Byte} {rest : List Request} {r : Reply}

theorem exec_identify_of_run (h : Taken s ⟨tag, 0x01 :: args⟩ rest)
    (hrun : runIdentify (0x01 :: args) (s.taken rest) = (r, u)) :
    exec .identify s = .next (u.appends tag (0x01 :: r.status.code :: r.content)) :=
  congrArg Host.Outcome.next (takeRequest_of_run h rfl hrun)

theorem exec_partStatus_of_run (h : Taken s ⟨tag, 0x02 :: args⟩ rest)
    (hrun : runPartStatus (0x02 :: args) (s.taken rest) = (r, u)) :
    exec .partStatus s = .next (u.appends tag (0x02 :: r.status.code :: r.content)) :=
  congrArg Host.Outcome.next (takeRequest_of_run h rfl hrun)

theorem exec_partConfig_of_run (h : Taken s ⟨tag, 0x03 :: args⟩ rest)
    (hrun : runPartConfig (0x03 :: args) (s.taken rest) = (r, u)) :
    exec .partConfig s = .next (u.appends tag (0x03 :: r.status.code :: r.content)) :=
  congrArg Host.Outcome.next (takeRequest_of_run h rfl hrun)

theorem exec_restart_of_run (h : Taken s ⟨tag, 0x04 :: args⟩ rest)
    (hrun : runRestart (0x04 :: args) (s.taken rest) = (r, u)) :
    exec .restart s = .next (u.appends tag (0x04 :: r.status.code :: r.content)) :=
  congrArg Host.Outcome.next (takeRequest_of_run h rfl hrun)

end

/-- The twenty bytes of R191 behind the code and the status. -/
theorem identifyContent_eq : identifyContent =
    [0x57, 0xD8, 0x01, 8, 0x02, 0x00, 32, 128, 0x02, 0x00, 0x02, 0x00, 64, 2, 4, 4, 68, 0x01, 0x00, 64] := by decide

/-- Settles O18: the state gives nothing to the answer, only the body's length does. -/
theorem identifyAnswersTheFixedFigures : Obligations.IdentifyAnswersTheFixedFigures := by
  intro s tag rest
  refine ⟨fun h => ?_, fun x more h => exec_identify_of_run (r := .refuse .badLength) h rfl⟩
  have hexec := exec_identify_of_run (r := .ok identifyContent) h rfl
  rw [identifyContent_eq] at hexec
  exact hexec

/-- Settles O21: one case for each length of the body. -/
theorem restartSetsTheFlagAlone : Obligations.RestartSetsTheFlagAlone := by
  intro s tag rest
  exact ⟨fun h => exec_restart_of_run (r := .ok []) h rfl,
    fun x more h => exec_restart_of_run (r := .refuse .badLength) h rfl⟩

/-! ### PART_STATUS (R183, R191, R193) -/

theorem quietTimer_code_eq (q : QuietTimer) :
    q.code = match q with | .off => 0#8 | .running _ => 1#8 | .stopped => 2#8 := by cases q <;> rfl

theorem partStatusContent_taken (s : State) (rest : List Request) :
    (s.taken rest).partStatusContent = s.partStatusContent := rfl

/-- What PART_STATUS does with a legal flags byte. -/
theorem runPartStatus_of_legal {flags : Byte} (h : flags.toNat ≤ 1) (s : State) :
    runPartStatus [0x02, flags] s = (.ok s.partStatusContent,
      if flags = 1#8 then s.onLink fun k => { k with damageCount := 0, dropCount := 0 } else s) := by
  simp only [runPartStatus, partStatusArgs, clearFlag_of_le h, decide_eq_true_eq]

/-- Settles O19: the content in the order of R191, read before the flag clears the counts. -/
theorem partStatusReportsThenClears : Obligations.PartStatusReportsThenClears := by
  intro s tag flags rest h hflags
  have hexec := exec_partStatus_of_run h (runPartStatus_of_legal hflags (s.taken rest))
  rw [partStatusContent_taken, State.partStatusContent, quietTimer_code_eq] at hexec
  simp only [bytesOf_one, List.cons_append, List.nil_append] at hexec ⊢
  exact hexec

/-! ### PART_CONFIG (R152, R175, R184) -/

/-- The two bytes of a mask spell the mask. -/
theorem bytes_append_eq (mask : BitVec 16) :
    (BitVec.ofNat 8 (mask.toNat / 256) ++ BitVec.ofNat 8 mask.toNat : BitVec 16) = mask := by
  apply BitVec.eq_of_toNat_eq
  rw [BitVec.toNat_append, BitVec.toNat_ofNat, BitVec.toNat_ofNat,
    ← Nat.shiftLeft_add_eq_or_of_lt (Nat.mod_lt _ (by decide)), Nat.shiftLeft_eq]
  omega

/-- The settings beyond the twelve kinds are the upper four bits. -/
theorem upper_bits_iff (mask : BitVec 16) : mask &&& 0xF000#16 = 0 ↔ mask.toNat < 0x1000 := by
  have hupper : (mask.toNat &&& 0xF000) / 2 ^ 12 = mask.toNat / 2 ^ 12 := by
    rw [Nat.and_div_two_pow]
    exact (Nat.and_two_pow_sub_one_eq_mod _ 4).trans (Nat.mod_eq_of_lt (by omega))
  have hlower : (mask.toNat &&& 0xF000) % 2 ^ 12 = 0 := by
    rw [Nat.and_mod_two_pow]
    exact Nat.and_zero _
  rw [← BitVec.toNat_inj, BitVec.toNat_and]
  change mask.toNat &&& 0xF000 = 0 ↔ _
  omega

theorem maskLegal_iff (mask : BitVec 16) : maskLegal mask = true ↔ mask.getLsbD 8 = true ∧ mask.toNat < 0x1000 := by
  rw [maskLegal, Bool.and_eq_true, beq_iff_eq, upper_bits_iff]

theorem quietLimitLegal_iff (n : Nat) : quietLimitLegal n = true ↔ n = 0 ∨ 10 ≤ n ∧ n ≤ 60000 := by
  simp [quietLimitLegal]

/-- A body of the right length reads back as its mask and its limit (R188). -/
theorem partConfigArgs_eq (mask : BitVec 16) {limit : Nat} (h : limit < 65536) :
    partConfigArgs (0x03 :: bytesOf 2 mask.toNat ++ bytesOf 2 limit) =
      argument (maskLegal mask && quietLimitLegal limit) (mask, limit) := by
  have hmask : bytesOf 2 mask.toNat = [BitVec.ofNat 8 (mask.toNat / 256), BitVec.ofNat 8 mask.toNat] := by simp [bytesOf]
  have hlimit : ∃ q1 q0, bytesOf 2 limit = [q1, q0] := ⟨_, _, rfl⟩
  obtain ⟨q1, q0, hq⟩ := hlimit
  have hread : natOf [q1, q0] = limit := by rw [← hq, natOf_bytesOf_two h]
  rw [hmask, hq]
  change argument (maskLegal (_ ++ _) && quietLimitLegal (natOf [q1, q0])) (_ ++ _, natOf [q1, q0]) = _
  rw [bytes_append_eq, hread]

/-- Where no entry is masked, a new mask keeps what it enables (R150, R152). -/
theorem setMask_eq {n : NoticeUnit} (h : ∀ e ∈ n.entries, enabled n.mask e.kind = true) (mask : BitVec 16) :
    n.setMask mask = { n with mask := mask, entries := n.entries.filter fun e => enabled mask e.kind } := by
  have hkeep : n.entries.filter (fun e => enabled mask e.kind || !enabled n.mask e.kind) =
      n.entries.filter fun e => enabled mask e.kind :=
    List.filter_congr fun e he => by rw [h e he, Bool.not_true, Bool.or_false]
  rw [NoticeUnit.setMask, hkeep]

theorem withLimit_eq (limit : Nat) (q : QuietTimer) : q.withLimit limit =
    if limit = 0 then .off else match q with | .off => .stopped | .running n => .running n | .stopped => .stopped := by
  cases q <;> rfl

/-- What PART_CONFIG does with a body of the right length. -/
theorem runPartConfig_eq (s : State) (mask : BitVec 16) {limit : Nat} (h : limit < 65536) :
    runPartConfig (0x03 :: bytesOf 2 mask.toNat ++ bytesOf 2 limit) s =
      if (mask.getLsbD 8 = true ∧ mask.toNat < 0x1000) ∧ (limit = 0 ∨ 10 ≤ limit ∧ limit ≤ 60000) then
        (.ok [], { s with
          notices := s.notices.setMask mask
          link := { s.link with quietLimit := limit, quietTimer := s.link.quietTimer.withLimit limit } })
      else (.refuse .badArgument, s) := by
  rw [runPartConfig, partConfigArgs_eq mask h, argument]
  simp only [Bool.and_eq_true, maskLegal_iff, quietLimitLegal_iff]
  split_ifs <;> rfl

/-- Settles O20: the two checks are the two branches of `runPartConfig_eq`. -/
theorem partConfigWritesMaskAndLimit : Obligations.PartConfigWritesMaskAndLimit := by
  intro s tag rest
  refine ⟨fun args h hlen => ?_, fun mask limit h hlimit => ?_⟩
  · exact exec_partConfig_of_run (r := .refuse .badLength) h (by rw [runPartConfig, partConfigArgs_of_length hlen])
  have hrun := runPartConfig_eq (s.taken rest) mask hlimit
  refine ⟨fun hbad => ?_, fun hbit hmask hlegal hlist => ?_⟩
  · have hillegal : ¬((mask.getLsbD 8 = true ∧ mask.toNat < 0x1000) ∧ (limit = 0 ∨ 10 ≤ limit ∧ limit ≤ 60000)) := by
      rintro ⟨⟨hbit, hmask⟩, hlegal⟩
      simp only [hbit, Bool.true_eq_false, false_or] at hbad
      omega
    rw [if_neg hillegal] at hrun
    exact exec_partConfig_of_run h hrun
  · have hnotices : (s.taken rest).notices.setMask mask = _ := setMask_eq hlist mask
    rw [if_pos ⟨⟨hbit, hmask⟩, hlegal⟩, hnotices, withLimit_eq] at hrun
    exact exec_partConfig_of_run h hrun

end Sys2Proof.Proofs.PartRequests
end

section
/-! PROOFS. The resets: what RESET_N, at either level, and the reset of a RESTART leave. -/

namespace Sys2Proof.Proofs.Resets

-- One theorem at a time: each elaboration thread takes 1 GiB of the check's memory limit.
set_option Elab.async false

open Sys2Proof Sys2Proof.Machine Sys2Proof.Proofs.Pacing Sys2Proof.Proofs.PartRequests

/-! ### The part after a reset (R180, R181) -/

section
variable (c : ResetCause) (speed straps : BitVec 2) (low : Bool) (pending : List Instr) (l : LaneId)

@[simp] theorem lane_afterReset : (State.afterReset c straps low pending).lane l = Lane.reset := by
  simp [State.lane, State.afterReset, Vector.get_eq_getElem]

@[simp] theorem lane_whileReset : (State.whileReset speed pending).lane l = Lane.reset :=
  lane_afterReset .resetPin speed false pending l

theorem free_afterReset : (State.afterReset c straps low pending).pool.free = List.range 512 := by
  simp only [State.afterReset, Config.poolBlocks]

theorem resetBlocks_afterReset : ResetBlocks straps (State.afterReset c straps low pending) := by
  refine ⟨rfl, .of_eq (free_afterReset c straps low pending), rfl, rfl, fun l => ?_, rfl, rfl, rfl, rfl⟩
  rw [lane_afterReset]
  rfl

theorem resetBlocks_whileReset : ResetBlocks speed (State.whileReset speed pending) :=
  resetBlocks_afterReset .resetPin speed false pending

theorem resetState_afterReset : ResetState c straps (State.afterReset c straps low pending) :=
  ⟨resetBlocks_afterReset c straps low pending, rfl, rfl⟩

end

/-- RESTART_RESET's turn: the RESTART response is the frame being sent (R179). -/
theorem restartDue_iff (s : State) : s.restartDue = true ↔ s.restartPending = true ∧ s.link.responses = [] := by
  rw [State.restartDue, Bool.and_eq_true, List.isEmpty_iff]

theorem restartDue_eq_false_iff (s : State) :
    s.restartDue = false ↔ s.restartPending = false ∨ s.link.responses ≠ [] := by
  rw [← Bool.not_eq_true, restartDue_iff, not_and_or, Bool.not_eq_true]

/-- Settles O5: the two branches of RESTART_RESET. -/
theorem restartResetWaitsForItsResponse : Obligations.RestartResetWaitsForItsResponse := by
  intro s straps low
  refine ⟨fun hflag hnone => ?_, fun hnot => ?_⟩
  · exact ⟨_, congrArg Host.Outcome.next (if_pos ((restartDue_iff s).2 ⟨hflag, hnone⟩)),
      resetState_afterReset .restart straps low s.pending, rfl, rfl, rfl⟩
  · exact congrArg Host.Outcome.next (if_neg (by simp [(restartDue_eq_false_iff s).2 hnot]))

/-! ### RESET_N (R157, R181) -/

/-- A command whose condition does not hold (log 2). -/
theorem next_of_not {s u : State} {p : Prop} [Decidable p] (h : ¬p) :
    (.next (if p then u else s) : Host.Outcome State Fault Refusal) = .next s := congrArg Host.Outcome.next (if_neg h)

section
variable (speed : BitVec 2) (pending : List Instr)

/-- While RESET_N is low no request is in the intake queue. -/
theorem exec_request_whileReset {c : Instr} (hc : c ∈ requestCommands) :
    exec c (State.whileReset speed pending) = .next (State.whileReset speed pending) :=
  requestsWaitForTheProcessor _ c hc fun _ _ htaken => nomatch htaken.1

/-- While RESET_N is low only its rise acts: no request waits, no frame is taken or sent, and no timer runs (R181; log 2,
log 21). -/
theorem exec_whileReset {c : Instr} (hc : ∀ pins, c ≠ .pinReset false pins) :
    exec c (State.whileReset speed pending) = .next (State.whileReset speed pending) := by
  cases c with
  | identify | partStatus | partConfig | restart | laneConfig | laneModeHold | laneModePass | laneModeHalt | laneStatus
  | laneFlush | laneReseqForce | laneReseqMark | dropReset | submit | cancel | query | replyRead | collect | retire
  | reportTake | unknownRequest => exact exec_request_whileReset speed pending (by decide)
  | controlHeaderTaken lenHi lenLo => rfl
  | controlFrameEnd chars => rfl
  | controlFrameGap => rfl
  | linkBreak => rfl
  | linkReset => rfl
  | hostQuietExpiry => rfl
  | responseStart => rfl
  | noticeStart => rfl
  | controlFrameSent => rfl
  | restartReset pins => rfl
  | pinReset low pins =>
    cases low with
    | false => exact absurd rfl (hc pins)
    | true => rfl
  | tick pins => exact exec_tick_of_low rfl pins
  | controlStartByte => rfl
  | slotCreditEarned lane => exact next_of_not (by simp [State.creditDue, Lane.reset])
  | releaseTimeReached lane => exact next_of_not (by simp [State.releaseDue, Lane.reset])
  | transmissionStart lane => exact next_of_not (by simp [State.startDue, Lane.reset])
  | dropFrameSent lane => exact next_of_not (by simp [Lane.reset])
  | dropHeaderTaken lane control lenHi lenLo => exact congrArg Host.Outcome.next (by simp [State.dropHeader, Lane.reset])
  | dropGapCut lane cut => exact next_of_not (by simp [Lane.gapOver, Lane.reset, Receiver.gap?])
  | dropFrameEnd lane chars => exact congrArg Host.Outcome.next (by simp [State.dropFrameEnd, Lane.reset])
  | ackTimeout lane => exact next_of_not (by simp [State.ackDue, Lane.reset])
  | backoffExpiry lane => exact next_of_not (by simp [State.backoffDue, Lane.reset])
  | dropResetBreakEnd lane => exact next_of_not (by simp [State.dropBreakDue, Lane.reset])
  | dropResetEnd lane => exact next_of_not (by simp [State.dropRecoveryDue, Lane.reset])
  | dropStartByte lane => exact next_of_not (by rintro ⟨-, hlow⟩; cases hlow)
  | dropFramingFault lane taken => exact congrArg Host.Outcome.next (by simp [State.cutFrame, Lane.reset])

end

/-- Settles O4: the two levels lead to `afterReset` and `whileReset`, whose blocks and pins are read off. -/
theorem pinResetLeavesTheResetState : Obligations.PinResetLeavesTheResetState := by
  intro s
  refine ⟨fun straps low => ?_, fun pins => ?_⟩
  · have hcount : (State.afterReset .resetPin straps low s.pending).freeCount = 512 := by
      rw [State.freeCount, free_afterReset, List.length_range]
    exact ⟨State.afterReset .resetPin straps low s.pending, rfl, resetState_afterReset .resetPin straps low s.pending, rfl, rfl,
      rfl, hcount, fun _ => rfl, rfl⟩
  · refine ⟨State.whileReset s.link.speed s.pending, rfl, resetBlocks_whileReset s.link.speed s.pending, rfl, rfl, rfl,
      fun periods => ⟨rfl, fun l => ?_⟩, rfl, fun c hc => exec_whileReset s.link.speed s.pending hc⟩
    rw [State.dtxHigh, lane_whileReset]
    rfl

end Sys2Proof.Proofs.Resets
end

section
/-! PROOFS. The control link: frames from the host, its break, and the transmitter. -/

namespace Sys2Proof.Proofs.ControlLink

-- One theorem at a time: each elaboration thread takes 1 GiB of the check's memory limit.
set_option Elab.async false

open Sys2Proof Sys2Proof.Machine Sys2Proof.Proofs.DeliveryCycle Sys2Proof.Proofs.Pacing Sys2Proof.Proofs.Resets

/-! ### Frames from the host (R162 to R166) -/

/-- Settles O8: the two commands' conditions, branch by branch. -/
theorem framerTakesStartByteAndLength : Obligations.FramerTakesStartByteAndLength := by
  intro s
  refine ⟨fun hhunt hhigh => congrArg Host.Outcome.next (if_pos ⟨hhunt, hhigh⟩), fun hnot => congrArg Host.Outcome.next (if_neg ?_),
    fun hi lo => ⟨fun hheader h3 h560 => ?_, fun hnot => congrArg Host.Outcome.next (if_neg hnot)⟩⟩
  · rintro ⟨hhunt, hhigh⟩
    simp [hhunt, hhigh] at hnot
  · rw [← natOf_pair] at h3 h560
    exact congrArg Host.Outcome.next ((if_pos hheader).trans (if_pos ⟨h3, h560⟩))

/-- A damaged frame as R164 says it. -/
theorem linkDamage_eq (s : State) (why : DamageReason) : s.linkDamage why = s.badFrame why := by
  unfold State.linkDamage State.badFrame
  rw [← satInc_eq_min]
  rfl

/-- A good frame as R165, R166 and R175 say it. -/
theorem goodRequest_eq (s : State) (tag : Byte) (body : List Byte) : s.goodRequest ⟨tag, body⟩ = s.goodFrame tag body := by
  unfold State.goodRequest State.goodFrame
  rw [← satInc_eq_min]
  by_cases hroom : s.link.intake.length < 4
  · exact (if_pos hroom).trans (if_pos hroom).symm
  · exact (if_neg hroom).trans (if_neg hroom).symm

section
variable {s : State} {hi lo : Byte} {n : Nat} {check : BitVec 16} (h : s.link.framer = .frame hi lo n check)
include h

/-- The judgement of a frame begins with its check. -/
theorem controlFrameEnd_of_bad_check {covered sent : List Byte} (hlen : covered.length = hi.toNat * 256 + lo.toNat)
    (hsent : sent.length = 2) (hbad : sent ≠ checkBytes (crcMore check covered)) :
    s.controlFrameEnd (covered ++ sent) = s.badFrame .badCrc := by
  rw [← natOf_pair] at hlen
  rw [State.controlFrameEnd, h]
  dsimp only
  rw [if_pos (by rw [List.length_append, hlen, hsent]), List.take_left' hlen, List.drop_left' hlen, if_neg hbad, linkDamage_eq]

/-- A frame with a good check is judged by its kind. -/
theorem controlFrameEnd_of_check {kind tag : Byte} {body : List Byte} (hlen : hi.toNat * 256 + lo.toNat = body.length + 2) :
    s.controlFrameEnd (kind :: tag :: body ++ checkBytes (crcMore check (kind :: tag :: body))) =
      if kind = requestKind then s.goodFrame tag body else s.badFrame .wrongKind := by
  have hcovered : (kind :: tag :: body).length = natOf [hi, lo] := by rw [natOf_pair, hlen]; rfl
  rw [← goodRequest_eq, ← linkDamage_eq, State.controlFrameEnd, h]
  dsimp only
  rw [if_pos (by rw [List.length_append, hcovered, checkBytes_length]), List.take_left' hcovered, List.drop_left' hcovered]
  exact if_pos rfl

end

/-- Settles O9: the check is good, and the kind is the request's. -/
theorem goodFrameEndHandsOnTheRequest : Obligations.GoodFrameEndHandsOnTheRequest := by
  intro s hi lo n check tag body h hlen
  exact congrArg Host.Outcome.next ((controlFrameEnd_of_check h hlen).trans (if_pos rfl))

theorem gapDue_iff (s : State) : s.gapDue = true ↔ s.link.framer.midFrame = true ∧ 500 ≤ s.link.gapWatch := by
  rw [State.gapDue, Bool.and_eq_true, inFrame_eq_midFrame, decide_eq_true_iff, Config.gapWatchTicks]

/-- Settles O10: each damage fails another of the framer's conditions, and `linkDamage_eq` says what follows. -/
theorem damagedControlFramesAreCounted : Obligations.DamagedControlFramesAreCounted := by
  intro s
  refine ⟨fun hi lo h hlen => ?_, fun hi lo n check covered sent h hlen hsent hbad => ?_,
    fun hi lo n check kind tag body h hlen hkind => ?_, fun hmid hgap => ?_, fun hnot => ?_⟩
  · have hrange : ¬(3 ≤ natOf [hi, lo] ∧ natOf [hi, lo] ≤ 560) := by rw [natOf_pair]; omega
    exact congrArg Host.Outcome.next (((if_pos h).trans (if_neg hrange)).trans (linkDamage_eq s _))
  · exact congrArg Host.Outcome.next (controlFrameEnd_of_bad_check h hlen hsent hbad)
  · exact congrArg Host.Outcome.next ((controlFrameEnd_of_check h hlen).trans (if_neg hkind))
  · exact congrArg Host.Outcome.next ((if_pos ((gapDue_iff s).2 ⟨hmid, hgap⟩)).trans (linkDamage_eq s _))
  · refine congrArg Host.Outcome.next (if_neg fun hdue => ?_)
    obtain ⟨hmid, hgap⟩ := (gapDue_iff s).1 hdue
    rcases hnot with h | h
    · simp [hmid] at h
    · omega

/-! ### A request frame, character by character (R162, R185, R186) -/

/-- The length of a control frame reads back from its two bytes. -/
theorem lengthBytes_eq {n : Nat} (h : n < 65536) :
    (BitVec.ofNat 8 (n / 256)).toNat * 256 + (BitVec.ofNat 8 n).toNat = n := by
  simp only [BitVec.toNat_ofNat]
  omega

/-- A control frame as the framer meets it: start byte, length, counted characters, and the check continued from the length. -/
theorem controlFrame_eq (kind tag : Byte) (body : List Byte) :
    let hi := BitVec.ofNat 8 ((body.length + 2) / 256)
    let lo := BitVec.ofNat 8 (body.length + 2)
    controlFrame kind tag body =
      controlStart :: hi :: lo :: (kind :: tag :: body ++ checkBytes (crcMore (crc16 [hi, lo]) (kind :: tag :: body))) := by
  intro hi lo
  have hlength : bytesOf 2 (body.length + 2) = [hi, lo] := by simp [bytesOf, hi, lo]
  rw [controlFrame, hlength, crc16, crcMore_append]
  rfl

/-- The first of several commands. -/
theorem runAll_cons {c : Instr} {s t : State} (h : exec c s = .next t) (cs : List Instr) :
    runAll (c :: cs) s = runAll cs t := by rw [runAll, h]

/-- Settles O7: the start byte and the length by O8's proof, the rest by O9's, in the state that each leaves. -/
theorem everyRequestFrameIsReadBack : Obligations.EveryRequestFrameIsReadBack := by
  intro s tag body hhunt hhigh h1 h558 frame
  have hL := lengthBytes_eq (n := body.length + 2) (by omega)
  have hframe : frame = _ := controlFrame_eq 0x51#8 tag body
  set hi := BitVec.ofNat 8 ((body.length + 2) / 256)
  set lo := BitVec.ofNat 8 (body.length + 2)
  obtain ⟨hstart, -, -⟩ := framerTakesStartByteAndLength s
  rw [runAll_cons (hstart hhunt hhigh)]
  obtain ⟨-, -, hheader⟩ := framerTakesStartByteAndLength
    { s with link := { s.link with framer := .header, gapWatch := 0, hrxLow := false, lowSinceReset := false } }
  obtain ⟨htake, -⟩ := hheader hi lo
  rw [hframe]
  refine (runAll_cons (htake rfl (by omega) (by omega)) _).trans ?_
  exact runAll_cons (goodFrameEndHandsOnTheRequest _ hi lo 3 (crc16 [hi, lo]) tag body rfl hL) []

/-! ### The break (R172, R174) -/

theorem breakDue_iff (s : State) : s.breakDue = true ↔ 100 ≤ s.link.breakWatch ∧ s.link.breakDetected = false := by
  rw [State.breakDue, Bool.and_eq_true, Bool.not_eq_true', decide_eq_true_iff, Config.breakWatchTicks]

/-- Settles O11: the break watch decides, then the restart-pending flag; after a break HRX's return decides alone. -/
theorem linkBreakEmptiesAndItsEndFreesTheLink : Obligations.LinkBreakEmptiesAndItsEndFreesTheLink := by
  intro s
  refine ⟨fun h100 hnew hflag => ?_, fun h100 hnew hflag => ?_, fun hnot => ?_, fun h => congrArg Host.Outcome.next (if_pos h),
    fun h => congrArg Host.Outcome.next (if_neg (by simp [h]))⟩
  · exact congrArg Host.Outcome.next ((if_pos ((breakDue_iff s).2 ⟨h100, hnew⟩)).trans (if_neg (by simp [hflag])))
  · exact ⟨_, congrArg Host.Outcome.next ((if_pos ((breakDue_iff s).2 ⟨h100, hnew⟩)).trans (if_pos hflag)),
      resetState_afterReset .restart s.link.straps true s.pending, rfl, rfl, rfl⟩
  · refine congrArg Host.Outcome.next (if_neg fun hdue => ?_)
    obtain ⟨h100, hnew⟩ := (breakDue_iff s).1 hdue
    rcases hnot with h | h
    · omega
    · simp [hnew] at h

/-! ### The transmitter (R160, R169 to R171, R179) -/

theorem canStart_iff (k : ControlLink) : k.canStart = true ↔ k.tx = .free ∧ k.lowSinceReset = false := by
  rw [ControlLink.canStart, Bool.and_eq_true, beq_iff_eq, Bool.not_eq_true']

section
variable {s : State}

theorem responseStart_of_ready {q : Response} {rest : List Response} (hqueue : s.link.responses = q :: rest)
    (hready : s.link.canStart = true) : s.responseStart =
      { s with link := { s.link with responses := rest, tx := .sendingResponse (controlFrame 0x52#8 q.tag q.body) } } := by
  rw [State.responseStart, hqueue]
  exact if_pos hready

theorem responseStart_of_not_ready (h : s.link.responses = [] ∨ ¬s.link.canStart = true) : s.responseStart = s := by
  unfold State.responseStart
  split
  · rfl
  · rename_i q rest hqueue
    exact if_neg (h.resolve_left (by simp [hqueue]))

theorem controlFrameSent_of_idle (h : s.link.tx = .free ∨ s.link.tx = .held) : s.controlFrameSent = s := by
  unfold State.controlFrameSent
  rcases h with h | h <;> rw [h]

theorem controlFrameSent_of_sending {f : List Byte}
    (h : s.link.tx = .sendingResponse f ∧ s.restartDue = false ∨ s.link.tx = .sendingNotice f) :
    s.controlFrameSent = { s with link := { s.link with tx := .free } } := by
  unfold State.controlFrameSent
  rcases h with ⟨h, hdue⟩ | h
  · rw [h]; exact if_neg (by simp [hdue])
  · rw [h]; rfl

theorem controlFrameSent_of_restart {f : List Byte} (h : s.link.tx = .sendingResponse f) (hdue : s.restartDue = true) :
    s.controlFrameSent = State.afterReset .restart s.link.straps s.link.hrxLow s.pending := by
  unfold State.controlFrameSent
  rw [h]
  exact if_pos hdue

/-- HTX carries the frame being sent, of either kind, at the rate of the link speed code. -/
theorem htxHigh_of_sending {f : List Byte} (h : s.link.tx = .sendingResponse f ∨ s.link.tx = .sendingNotice f) :
    s.htxHigh = frameHigh (hostRate s.link.speed.toNat) f := by
  funext periods
  unfold State.htxHigh
  rcases h with h | h <;> rw [h] <;> rfl

theorem htxHigh_of_idle (h : s.link.tx = .free ∨ s.link.tx = .held) (periods : Nat) : s.htxHigh periods = true := by
  unfold State.htxHigh
  rcases h with h | h <;> rw [h]

end

/-- Settles O13: the start, the two ends and the levels, each from its own lemma. -/
theorem responseStartSendsTheOldest : Obligations.ResponseStartSendsTheOldest := by
  intro s
  refine ⟨fun q rest hqueue hfree hlow => ?_, fun hnot => ?_, fun f h => ?_, fun f h hflag hnone => ?_, fun h => ?_,
    fun f h => ?_, htxHigh_of_idle⟩
  · exact congrArg Host.Outcome.next (responseStart_of_ready hqueue ((canStart_iff _).2 ⟨hfree, hlow⟩))
  · refine congrArg Host.Outcome.next (responseStart_of_not_ready (hnot.imp_right fun hbusy hready => ?_))
    obtain ⟨hfree, hlow⟩ := (canStart_iff _).1 hready
    simp [hfree, hlow] at hbusy
  · exact congrArg Host.Outcome.next
      (controlFrameSent_of_sending (h.imp_left (And.imp_right (restartDue_eq_false_iff s).2)))
  · exact ⟨_, congrArg Host.Outcome.next (controlFrameSent_of_restart h ((restartDue_iff s).2 ⟨hflag, hnone⟩)),
      resetState_afterReset .restart s.link.straps s.link.hrxLow s.pending, rfl, rfl, rfl⟩
  · exact congrArg Host.Outcome.next (controlFrameSent_of_idle h)
  · rw [htxHigh_of_sending h]
    exact sendsFrame_frameHigh _ f

end Sys2Proof.Proofs.ControlLink
end

section
/-! PROOFS. The host-quiet expiry: the lanes held one after the other, as one change. -/

namespace Sys2Proof.Proofs.HostQuiet

-- One theorem at a time: each elaboration thread takes 1 GiB of the check's memory limit.
set_option Elab.async false

open Sys2Proof Sys2Proof.Machine Sys2Proof.Proofs.LaneQueues

/-! ### One lane held (R71, R176) -/

/-- Every lane that waits for space is in PASS (R8, R74). -/
def WaitersPass (s : State) : Prop :=
  ∀ e ∈ s.pool.waiting, (s.lane e.lane).mode = .pass ∧ (s.lane e.lane).phase = .waitSpace

/-- The Notice Unit after lane `l` of `s` has been held by the expiry. -/
def quietNotice (s : State) (u : NoticeUnit) (l : LaneId) : NoticeUnit :=
  if (s.lane l).mode = .pass then u.take ⟨.held, some l, 0, .held .quiet, none⟩ s.time else u

/-- `s` after one lane has been held by the expiry, where it was in PASS. -/
def quietedOne (s : State) (l : LaneId) : State :=
  { s.withLane l (s.lane l).quieted with
    pool := { s.pool with waiting := s.pool.waiting.filter fun e => e.lane != l }
    notices := quietNotice s s.notices l }

/-- `s` after the lanes of a list have been held by the expiry, those of them that were in PASS. -/
def quietedLanes (s : State) (ls : List LaneId) : State :=
  { s with
    lanes := Vector.ofFn fun m => if m ∈ ls then (s.lane m).quieted else s.lane m
    pool := { s.pool with waiting := s.pool.waiting.filter fun e => e.lane ∉ ls }
    notices := ls.foldl (quietNotice s) s.notices }

theorem lane_withLane (s : State) (l m : LaneId) (x : Lane) : (s.withLane l x).lane m = if l = m then x else s.lane m :=
  lane_onLane s l m fun _ => x

/-- The lanes one by one. -/
theorem ofFn_lane (s : State) : Vector.ofFn s.lane = s.lanes := by
  ext i hi
  simp [State.lane, Vector.get_eq_getElem]

theorem quieted_of_ne_pass {x : Lane} (h : x.mode ≠ .pass) : x.quieted = x := if_neg h

/-- A lane that is not in PASS and WAIT_SPACE has no entry to lose. -/
theorem filter_waiting_of_not_waiting {s : State} (h : WaitersPass s) {l : LaneId}
    (hl : ¬((s.lane l).mode = .pass ∧ (s.lane l).phase = .waitSpace)) :
    (s.pool.waiting.filter fun e => e.lane != l) = s.pool.waiting := by
  refine List.filter_eq_self.2 fun e he => ?_
  rw [bne_iff_ne]
  rintro rfl
  exact hl (h e he)

/-- What the expiry does to one lane: HOLD out of its wait, its entry gone, HELD raised; nothing outside PASS (R71, R176). -/
theorem holdQuiet_eq {s : State} (h : WaitersPass s) (l : LaneId) : s.holdQuiet l = quietedOne s l := by
  unfold State.holdQuiet quietedOne quietNotice
  by_cases hpass : (s.lane l).mode = .pass
  · have hlane : (s.setMode l .hold).lane l = { s.lane l with mode := .hold } := lane_onLane_self s l _
    have hquieted : (s.lane l).quieted =
        { s.lane l with
          mode := .hold
          phase := if (s.lane l).phase = .waitTime ∨ (s.lane l).phase = .waitSpace then .idle else (s.lane l).phase } :=
      if_pos hpass
    have hwaiting : (if (s.lane l).phase = .waitSpace then s.pool.waiting.filter fun e => e.lane != l else s.pool.waiting) =
        s.pool.waiting.filter fun e => e.lane != l := by
      split_ifs with hspace
      · rfl
      · exact (filter_waiting_of_not_waiting h fun hw => hspace hw.2).symm
    rw [if_pos hpass, if_pos hpass, stopWaiting_eq, hlane, setMode_pool, hwaiting, hquieted, State.setMode, onLane_eq_withLane,
      withLane_withLane]
    rfl
  · rw [if_neg hpass, if_neg hpass, quieted_of_ne_pass hpass, withLane_lane, filter_waiting_of_not_waiting h fun hw => hpass hw.1]

/-- Holding one lane leaves the others' entries lawful. -/
theorem waitersPass_quietedOne {s : State} (h : WaitersPass s) (l : LaneId) : WaitersPass (quietedOne s l) := by
  intro e he
  obtain ⟨he, hne⟩ := List.mem_filter.1 he
  have hlane : (quietedOne s l).lane e.lane = s.lane e.lane :=
    (lane_withLane s l e.lane _).trans (if_neg (Ne.symm (bne_iff_ne.1 hne)))
  rw [hlane]
  exact h e he

/-! ### The eight lanes held (R176, log 12) -/

theorem quietedLanes_nil (s : State) : quietedLanes s [] = s := by
  have hlanes : (Vector.ofFn fun m => if m ∈ ([] : List LaneId) then (s.lane m).quieted else s.lane m) = s.lanes := by
    simpa using ofFn_lane s
  have hwaiting : (s.pool.waiting.filter fun e => e.lane ∉ ([] : List LaneId)) = s.pool.waiting := by simp
  rw [quietedLanes, hlanes, hwaiting, List.foldl_nil]

/-- Holding one lane and then others is holding them all: the others read the same before and after. -/
theorem quietedLanes_quietedOne (s : State) {l : LaneId} {ls : List LaneId} (hl : l ∉ ls) :
    quietedLanes (quietedOne s l) ls = quietedLanes s (l :: ls) := by
  have hlane (m : LaneId) : (quietedOne s l).lane m = if l = m then (s.lane l).quieted else s.lane m := lane_withLane s l m _
  have hlanes : (fun m => if m ∈ ls then ((quietedOne s l).lane m).quieted else (quietedOne s l).lane m) =
      fun m => if m ∈ l :: ls then (s.lane m).quieted else s.lane m := by
    funext m
    rw [hlane]
    by_cases hm : l = m
    · subst hm
      simp [hl]
    · simp [hm, Ne.symm hm]
  have hwaiting : ((quietedOne s l).pool.waiting.filter fun e => e.lane ∉ ls) =
      s.pool.waiting.filter fun e => e.lane ∉ l :: ls := by
    rw [quietedOne, List.filter_filter]
    exact List.filter_congr fun e _ => by rw [Bool.eq_iff_iff]; simp [and_comm]
  have hnotices : ls.foldl (quietNotice (quietedOne s l)) (quietedOne s l).notices =
      (l :: ls).foldl (quietNotice s) s.notices := by
    rw [List.foldl_cons]
    refine List.foldl_ext _ _ _ fun u m hm => ?_
    have hne : l ≠ m := fun h => hl (h ▸ hm)
    rw [quietNotice, hlane, if_neg hne]
    rfl
  rw [quietedLanes, hlanes, hwaiting, hnotices]
  rfl

/-- The lanes of a list held one after the other, none standing twice, as one change. -/
theorem foldl_holdQuiet_eq {s : State} (h : WaitersPass s) {ls : List LaneId} (hls : ls.Nodup) :
    ls.foldl (fun s l => s.holdQuiet l) s = quietedLanes s ls := by
  induction ls generalizing s with
  | nil => exact (quietedLanes_nil s).symm
  | cons l ls ih =>
    obtain ⟨hl, hls⟩ := List.nodup_cons.1 hls
    rw [List.foldl_cons, holdQuiet_eq h, ih (waitersPass_quietedOne h l) hls, quietedLanes_quietedOne s hl]

/-- All eight lanes held. -/
theorem quietedLanes_allLanes (s : State) : quietedLanes s allLanes =
    { s with lanes := s.lanes.map Lane.quieted
             pool := { s.pool with waiting := [] }
             notices := (List.finRange 8).foldl (quietNotice s) s.notices } := by
  have hall : ∀ l : LaneId, l ∈ allLanes := by decide
  have hlist : allLanes = List.finRange 8 := by decide
  have hlanes : (Vector.ofFn fun m => if m ∈ allLanes then (s.lane m).quieted else s.lane m) = s.lanes.map Lane.quieted := by
    ext i hi
    simp [hall, State.lane, Vector.get_eq_getElem]
  have hwaiting : (s.pool.waiting.filter fun e => e.lane ∉ allLanes) = [] := by simp [hall]
  rw [quietedLanes, hlanes, hwaiting, hlist]

theorem quietDue_iff (s : State) : s.quietDue = true ↔ s.link.quietTimer = .running 0 := beq_iff_eq

/-- Settles O12: the fold over the eight lanes is one change, which leaves nobody waiting, so the scan grants nothing. -/
theorem hostQuietExpiryHoldsPassingLanes : Obligations.HostQuietExpiryHoldsPassingLanes := by
  intro s
  refine ⟨fun hdue hwait => ?_, fun hnot => congrArg Host.Outcome.next (if_neg (mt (quietDue_iff s).1 hnot))⟩
  refine congrArg Host.Outcome.next ((if_pos ((quietDue_iff s).2 hdue)).trans ?_)
  have hstopped : WaitersPass (s.onLink fun k => { k with quietTimer := .stopped }) := hwait
  rw [foldl_holdQuiet_eq hstopped (by decide), quietedLanes_allLanes, grantScan_of_nobody rfl]
  rfl

end Sys2Proof.Proofs.HostQuiet
end

section
/-! PROOFS. The 512 blocks and the tickets: what moves a block, and that every step keeps the count of both. -/

namespace Sys2Proof.Proofs.Blocks

-- One theorem at a time: each elaboration thread takes 1 GiB of the check's memory limit.
set_option Elab.async false

open Sys2Proof Sys2Proof.Machine Sys2Proof.Proofs.Messages

/-! ### The law, and what it reads (R1, R21, R25) -/

/-- R1, R21 and R25 together: every block in one place, no ticket twice. -/
def Accounted (s : State) : Prop := TicketsLawful s ∧ BlocksConserved s

/-- What the law reads: the free set, the records and the ticket counter. -/
def accounts (s : State) : List BlockNo × List Record × Ticket := (s.pool.free, s.table.records, s.table.counter)

theorem accounted_of_same {s t : State} (h : Accounted s) (ha : accounts t = accounts s) : Accounted t := by
  obtain ⟨hfree, ha⟩ := Prod.mk.inj ha
  obtain ⟨hrecords, hcounter⟩ := Prod.mk.inj ha
  unfold Accounted TicketsLawful BlocksConserved State.allBlocks at h ⊢
  rw [hfree, hrecords, hcounter]
  exact h

/-- The blocks of a record, payload chain first. -/
def chains (r : Record) : List BlockNo := r.payloadChain ++ r.replyChain

theorem allBlocks_eq (s : State) : s.allBlocks = s.pool.free ++ s.table.records.flatMap chains := rfl

/-! ### One record among the others -/

/-- Rewriting the record of a ticket, where no ticket stands twice, rewrites one place of the list. -/
theorem map_ticket_split {rs : List Record} (hnd : (rs.map Record.ticket).Nodup) {t : Ticket} {r : Record}
    (hr : rs.find? (fun x => x.ticket == t) = some r) :
    ∃ before after, rs = before ++ r :: after ∧ (∀ x ∈ before ++ after, x.ticket ≠ t) ∧
      ∀ f : Record → Record, rs.map (fun x => if x.ticket = t then f x else x) = before ++ f r :: after := by
  obtain ⟨ht, before, after, rfl, hbefore⟩ := List.find?_eq_some_iff_append.1 hr
  have ht' : r.ticket = t := by simpa using ht
  have hne : ∀ x ∈ before ++ after, x.ticket ≠ t := by
    intro x hx
    rcases List.mem_append.1 hx with hx | hx
    · simpa using hbefore x hx
    · rw [List.map_append, List.map_cons, List.nodup_append] at hnd
      obtain ⟨-, hnd, -⟩ := hnd
      rintro rfl
      exact (List.nodup_cons.1 hnd).1 (ht' ▸ List.mem_map_of_mem hx)
  have hid (f : Record → Record) (xs : List Record) (h : ∀ x ∈ xs, x.ticket ≠ t) :
      xs.map (fun x => if x.ticket = t then f x else x) = xs := by
    rw [List.map_congr_left fun x hx => if_neg (h x hx), List.map_id']
  refine ⟨before, after, rfl, hne, fun f => ?_⟩
  rw [List.map_append, List.map_cons, if_pos ht', hid f before fun x hx => hne x (List.mem_append_left _ hx),
    hid f after fun x hx => hne x (List.mem_append_right _ hx)]

/-- One record rewritten and blocks moved between it and the free set: nothing is lost or gained. -/
theorem accounted_of_rewritten {s u : State} (h : Accounted s) {t : Ticket} {r : Record} (hr : s.record? t = some r)
    (f : Record → Record) (hf : ∀ x, (f x).ticket = x.ticket)
    (hrecords : u.table.records = s.table.records.map fun x => if x.ticket = t then f x else x)
    (hcounter : u.table.counter = s.table.counter)
    (hblocks : (u.pool.free ++ chains (f r)).Perm (s.pool.free ++ chains r)) : Accounted u := by
  obtain ⟨⟨hlen, hnd, hrange, hcount⟩, hperm⟩ := h
  obtain ⟨before, after, hsplit, -, hmap⟩ := map_ticket_split hnd hr
  have htickets : u.table.records.map Record.ticket = s.table.records.map Record.ticket := by
    rw [hrecords, hmap, hsplit]
    simp [hf]
  have hlength : u.table.records.length = s.table.records.length := by rw [hrecords, List.length_map]
  refine ⟨⟨by rw [hlength]; exact hlen, by rw [htickets]; exact hnd, fun x hx => ?_, by rw [hcounter]; exact hcount⟩, ?_⟩
  · obtain ⟨y, hy, hxy⟩ := List.mem_map.1 (htickets ▸ List.mem_map_of_mem hx : x.ticket ∈ s.table.records.map Record.ticket)
    exact hxy ▸ hrange y hy
  · refine List.Perm.trans ?_ hperm
    rw [allBlocks_eq, allBlocks_eq, hrecords, hmap, hsplit, List.perm_iff_count]
    intro b
    have := List.perm_iff_count.1 hblocks b
    simp only [List.flatMap_append, List.flatMap_cons, List.count_append] at this ⊢
    omega

/-- A record rewritten with its chains as they are. -/
theorem accounted_onRecord {s : State} (h : Accounted s) (t : Ticket) {f : Record → Record} (hf : ∀ x, (f x).ticket = x.ticket)
    (hc : ∀ x, chains (f x) = chains x) : Accounted (s.onRecord t f) := by
  cases hr : s.record? t with
  | some r => exact accounted_of_rewritten h hr f hf rfl rfl (by rw [hc]; exact List.Perm.refl _)
  | none =>
    have hnone : ∀ x ∈ s.table.records, x.ticket ≠ t := by simpa [State.record?] using hr
    refine accounted_of_same h ?_
    have hmap : (s.table.records.map fun x => if x.ticket = t then f x else x) = s.table.records := by
      rw [List.map_congr_left fun x hx => if_neg (hnone x hx), List.map_id']
    simp only [accounts, State.onRecord, onTable_pool, onTable_table, hmap]

/-! ### Activation and the grant scan (R12, R27) -/

/-- Free blocks move into the reply chain of a live record. -/
theorem accounted_activate {s : State} (h : Accounted s) {t : Ticket} {r : Record} (hr : s.record? t = some r) (l : LaneId)
    (n : Nat) : Accounted (s.activate l t n) := by
  have hreserved : Accounted (s.reserve t n) := by
    refine accounted_of_rewritten h hr (fun x => { x with replyChain := x.replyChain ++ s.pool.free.take n }) (fun _ => rfl)
      rfl rfl ?_
    change (s.pool.free.drop n ++ (r.payloadChain ++ (r.replyChain ++ s.pool.free.take n))).Perm _
    rw [List.perm_iff_count]
    intro b
    have := congrArg (List.count b) (List.take_append_drop n s.pool.free)
    simp only [chains, List.count_append] at this ⊢
    omega
  exact accounted_of_same (accounted_onRecord hreserved t (f := fun r =>
    { r with state := .active, misses := 0, busies := 0, uncertain := false }) (fun _ => rfl) fun _ => rfl) rfl

/-- The head of a lane is a live record, and its ticket names it. -/
theorem record?_of_head? {s : State} {l : LaneId} {r : Record} (h : s.head? l = some r) : s.record? r.ticket = some r := by
  unfold State.head? at h
  split at h
  · cases h
  · rwa [(record?_some h).2]

theorem accounted_grant {s : State} (h : Accounted s) (e : WaitEntry) : Accounted (s.grant e) := by
  unfold State.grant
  split
  · exact h
  · rename_i r hr
    exact accounted_activate (s := s.removeWaiting e.lane) (accounted_of_same h rfl) (record?_of_head? hr) _ _

theorem accounted_scanFrom {s : State} (h : Accounted s) (es : List WaitEntry) : Accounted (s.scanFrom es) := by
  induction es generalizing s with
  | nil => exact h
  | cons e es ih =>
    rcases scanFrom_cons_cases s e es with ⟨-, hs⟩ | ⟨-, -, hs⟩ | ⟨-, -, hs⟩ <;> rw [hs]
    · exact ih h
    · exact ih (accounted_grant h e)
    · exact h

theorem accounted_grantScan {s : State} (h : Accounted s) : Accounted s.grantScan := accounted_scanFrom h _

/-! ### Records that are made and removed, before the scan that follows (R35, R43) -/

/-- The state with the new record, before the scan. -/
def created (a : SubmitArgs) (t : Ticket) (s : State) : State :=
  (s.dropFree (blockCount a.payload.length)).onTable fun m =>
    { m with records := m.records ++ [newRecord a t (s.lane a.lane).config.defaultReplyLimit
                          (s.pool.free.take (blockCount a.payload.length))], counter := nextTicket t }

theorem createRecord_eq (a : SubmitArgs) (t : Ticket) (s : State) : s.createRecord a t = (created a t s).grantScan := rfl

/-- The state without the retired record, before the scan. -/
def retired (r : Record) (s : State) : State :=
  (s.returnBlocks (r.payloadChain ++ r.replyChain)).onTable fun m =>
    { m with records := m.records.filter fun x => x.ticket != r.ticket, completion := m.completion.erase r.ticket }

theorem retireRecord_cases (s : State) (r : Record) :
    (r.blocks = 0 ∧ s.retireRecord r = retired r s) ∨ (r.blocks ≠ 0 ∧ s.retireRecord r = (retired r s).grantScan) := by
  unfold State.retireRecord
  by_cases hb : r.blocks = 0
  · exact .inl ⟨hb, if_pos hb⟩
  · exact .inr ⟨hb, if_neg hb⟩

/-! ### Head selection (R51 to R54, R76) -/

section
variable {s : State} (h : Accounted s) (l : LaneId)
include h

theorem accounted_judgeHead : Accounted (s.judgeHead l) := by
  cases hh : s.head? l with
  | none => rw [judgeHead_of_none hh]; exact accounted_of_same h rfl
  | some r =>
    cases ht : released s.time r.releaseTime with
    | false => rw [judgeHead_of_early hh ht]; exact accounted_of_same h rfl
    | true =>
      rw [judgeHead_of_due hh ht]
      have hscan : Accounted ((s.setPhase l .waitSpace).appendWaiting ⟨l, r.replyNeed⟩).grantScan :=
        accounted_grantScan (accounted_of_same h rfl)
      rcases spaceStep_cases s l r with ⟨-, e⟩ | ⟨-, u, rfl, ⟨-, e⟩ | ⟨-, e⟩⟩ <;> rw [e]
      · exact accounted_activate h (record?_of_head? hh) l _
      · exact accounted_of_same hscan rfl
      · exact hscan

theorem accounted_updateNeed : Accounted (s.updateNeed l) := by
  rcases updateNeed_cases s l with ⟨-, e⟩ | ⟨r, hr, ⟨-, e⟩ | ⟨-, -, e⟩ | ⟨-, -, e⟩⟩ <;> rw [e]
  · exact accounted_grantScan (accounted_of_same h rfl)
  · exact accounted_grantScan (accounted_of_same h rfl)
  · exact accounted_grantScan
      (accounted_activate (s := s.removeWaiting l) (accounted_of_same h rfl) (record?_of_head? hr) l 0)
  · exact accounted_grantScan (accounted_of_same h rfl)

theorem accounted_headChanged : Accounted (s.headChanged l) := by
  rcases headChanged_cases s l with ⟨-, -, e⟩ | ⟨-, -, e⟩ | ⟨-, e⟩ <;> rw [e]
  · exact accounted_judgeHead h l
  · exact accounted_updateNeed h l
  · exact h

theorem accounted_stopWaiting : Accounted (s.stopWaiting l) := by
  unfold State.stopWaiting
  split
  · exact accounted_of_same h rfl
  · exact accounted_of_same h rfl
  · exact h

theorem accounted_leaveWait : Accounted (s.leaveWait l) := by
  unfold State.leaveWait
  split
  · exact accounted_grantScan (accounted_stopWaiting h l)
  · exact accounted_stopWaiting h l

/-! ### Records becoming terminal (R15, R16, R29) -/

/-- Both chains of the record return to the free set. -/
theorem accounted_endRecord (t : Ticket) (st : RecordState) (cause : Cause) (reject : Option Byte) :
    Accounted (s.endRecord t st cause reject) := by
  cases hr : s.record? t with
  | none => rw [State.endRecord, hr]; exact h
  | some r =>
    rw [endRecord_eq_ended hr]
    exact accounted_of_rewritten h hr (Record.finish st cause reject s.time) (fun _ => rfl) rfl rfl
      (by simp [State.ended, chains, Record.finish])

/-- The payload chain and the end of the reply chain return to the free set. -/
theorem accounted_completeRecord (t : Ticket) (n : Nat) : Accounted (s.completeRecord t n) := by
  unfold State.completeRecord
  split
  · exact h
  · rename_i r hr
    refine accounted_of_rewritten h hr (fun x =>
        { x with state := .done, completionTime := some s.time, replyLength := n, payloadChain := [], payload := [],
                 replyChain := x.replyChain.take (blockCount n), reply := x.reply.take n }) (fun _ => rfl) rfl rfl ?_
    change ((s.pool.free ++ (r.payloadChain ++ r.replyChain.drop (blockCount n))) ++
      ([] ++ r.replyChain.take (blockCount n))).Perm _
    rw [List.perm_iff_count]
    intro b
    have := congrArg (List.count b) (List.take_append_drop (blockCount n) r.replyChain)
    simp only [chains, List.count_append, List.count_nil] at this ⊢
    omega

/-! ### Outcomes of an attempt (R75, R80 to R89) -/

theorem accounted_stopBusy (t : Ticket) : Accounted (s.stopBusy l t) := by
  rcases stopBusy_cases s l t with ⟨-, e⟩ | ⟨-, e⟩ <;> rw [e]
  · exact accounted_judgeHead (s := s.onLane l _) (accounted_of_same h rfl) l
  · exact accounted_of_same h rfl

theorem accounted_failRecord (t : Ticket) (cause : Cause) (reject : Option Byte) (unsure : Bool) :
    Accounted (s.failRecord l t cause reject unsure) := by
  have hended := accounted_grantScan (accounted_endRecord h t .failed cause reject)
  unfold State.failRecord
  refine accounted_stopBusy ?_ l t
  split
  · exact accounted_of_same hended rfl
  · exact accounted_of_same hended rfl

theorem accounted_cancelActive (t : Ticket) (unsure : Bool) : Accounted (s.cancelActive l t unsure) := by
  unfold State.cancelActive
  refine accounted_stopBusy ?_ l t
  exact accounted_of_same (accounted_grantScan (accounted_endRecord h t .cancelled .byHost none)) rfl

theorem accounted_takeMiss (reply : Bool) : Accounted (s.takeMiss l reply) := by
  unfold State.takeMiss
  split <;> [exact h; skip]
  rename_i t _
  split <;> [exact h; skip]
  have hcounted : Accounted ((s.onCounters l fun c => { c with missesTotal := satInc 65535 c.missesTotal }).onRecord t fun x =>
      { x with misses := satInc 255 x.misses, uncertain := true }) :=
    accounted_onRecord (s := s.onCounters l _) (accounted_of_same h rfl) t (fun _ => rfl) fun _ => rfl
  dsimp only
  split <;> [skip; split]
  · exact accounted_cancelActive hcounted l t true
  · exact accounted_failRecord hcounted l t .noAnswer none true
  · exact accounted_of_same hcounted rfl

theorem accounted_takeBusy (t : Ticket) (r : Record) : Accounted (s.takeBusy l t r) := by
  have hcounted : Accounted (((s.onCounters l fun c => { c with busiesTotal := satInc 65535 c.busiesTotal }).onRecord t
      fun x => { x with busies := satInc 255 x.busies, uncertain := false }).onLane l fun x =>
        { x with busyCount := x.busyCount + 1 }) :=
    accounted_of_same (accounted_onRecord (s := s.onCounters l _) (accounted_of_same h rfl) t (f := fun x =>
      { x with busies := satInc 255 x.busies, uncertain := false }) (fun _ => rfl) fun _ => rfl) rfl
  unfold State.takeBusy
  dsimp only
  split_ifs
  · exact accounted_cancelActive hcounted l t false
  · exact accounted_failRecord hcounted l t .busyLimit none false
  · exact accounted_of_same hcounted rfl

theorem accounted_takeReject (t : Ticket) (code : Byte) : Accounted (s.takeReject l t code) := by
  unfold State.takeReject
  exact accounted_failRecord (accounted_onRecord h t (f := fun x => { x with uncertain := false }) (fun _ => rfl)
    fun _ => rfl) l t .rejected (some code) false

theorem accounted_takeOversize (t : Ticket) (r : Record) : Accounted (s.takeOversize l t r) := by
  unfold State.takeOversize
  exact accounted_failRecord (s := s.onLane l _) (accounted_of_same h rfl) l t .oversizeReply none r.uncertain

theorem accounted_completeActive (t : Ticket) (r : Record) (n : Nat) : Accounted (s.completeActive l t r n) := by
  have hdone := accounted_grantScan (accounted_completeRecord h t n)
  unfold State.completeActive
  refine accounted_stopBusy ?_ l t
  split
  · exact accounted_of_same hdone (by simp [accounts])
  · exact accounted_of_same hdone (by simp [accounts])

/-! ### Answers, and the halt-abort (R91, R92, R124, R130) -/

theorem accounted_storeReply (f : RxFrame) (bytes : List Byte) : Accounted (s.storeReply l f bytes) := by
  unfold State.storeReply
  split <;> [skip; exact h]
  split <;> [exact h; skip]
  refine accounted_onRecord h _ (fun x => ?_) fun x => ?_
  · split <;> rfl
  · split <;> rfl

theorem accounted_judgeAnswer (control : Byte) (payload : List Byte) : Accounted (s.judgeAnswer l control payload) := by
  unfold State.judgeAnswer
  split <;> [skip; exact accounted_of_same h rfl]
  split <;> [exact h; skip]
  rename_i t _
  split <;> [exact h; skip]
  rename_i r _
  split
  · exact accounted_completeActive h l t r 0
  · exact accounted_takeBusy h l t r
  · exact accounted_takeReject h l t _
  · split_ifs
    · exact accounted_completeActive h l t r _
    · exact accounted_takeOversize h l t r
    · exact accounted_completeActive h l t r 0
  · exact h
  · exact h

theorem accounted_damagedFrame (expected reply : Bool) : Accounted (s.damagedFrame l expected reply) := by
  unfold State.damagedFrame
  split
  · exact accounted_takeMiss (s := s.countDamaged l) (accounted_of_same h rfl) l reply
  · exact accounted_of_same h rfl

theorem accounted_arriveReport (bytes : List Byte) : Accounted (s.arriveReport l bytes) := by
  unfold State.arriveReport
  split <;> exact accounted_of_same h rfl

/-- The reply chain of an unmarked record returns to the free set with it; a marked one ends. -/
theorem accounted_haltAbort (t : Ticket) : Accounted (s.haltAbort l t) := by
  unfold State.haltAbort
  split <;> [exact h; skip]
  rename_i r hr
  have hcut (unsure : Bool) : Accounted ((s.cutAttempt l).onRecord t fun x => { x with uncertain := unsure }) :=
    accounted_onRecord (s := s.cutAttempt l) (accounted_of_same h rfl) t (fun _ => rfl) fun _ => rfl
  refine accounted_stopBusy (accounted_grantScan ?_) l t
  split
  · exact accounted_of_same (accounted_endRecord (hcut _) t .cancelled .byHost none) rfl
  · refine accounted_of_rewritten (hcut _) (record?_onRecord_self (s := s.cutAttempt l) hr _ fun _ => rfl) (fun x =>
      { x with state := .queued, replyChain := [], reply := [] }) (fun _ => rfl) rfl rfl ?_
    change ((s.pool.free ++ r.replyChain) ++ (r.payloadChain ++ [])).Perm (s.pool.free ++ (r.payloadChain ++ r.replyChain))
    rw [List.append_nil, List.append_assoc]
    exact List.Perm.append_left _ List.perm_append_comm

/-! ### Events of a lane -/

theorem accounted_dropStartByte : Accounted (s.dropStartByte l) := by
  unfold State.dropStartByte
  split <;> [exact accounted_of_same h rfl; exact h]

theorem accounted_dropHeader (control lenHi lenLo : Byte) : Accounted (s.dropHeader l control lenHi lenLo) := by
  unfold State.dropHeader
  split <;> [skip; exact h]
  dsimp only
  have hacked (b : Bool) : Accounted (if b then s.onLane l fun x => { x with ackTimer := none } else s) := by
    split <;> [exact accounted_of_same h rfl; exact h]
  split
  · exact accounted_of_same (hacked _) rfl
  · exact accounted_damagedFrame (s := State.hunt l _) (accounted_of_same (hacked _) rfl) l _ _

theorem accounted_cutFrame (taken : List Byte) : Accounted (s.cutFrame l taken) := by
  unfold State.cutFrame
  split
  · split <;> [exact accounted_of_same h rfl; exact h]
  · split <;> [skip; exact h]
    exact accounted_damagedFrame (s := State.hunt l _) (accounted_of_same (accounted_storeReply h l _ _) rfl) l _ _
  · exact h
  · exact h

theorem accounted_gapCut (cut : GapCut) : Accounted (s.gapCut l cut) := by
  rcases gapCut_cases s l cut with ⟨-, e⟩ | ⟨-, e⟩ <;> rw [e]
  · exact h
  · exact accounted_cutFrame h l cut.taken

theorem accounted_dropFrameEnd (chars : List Byte) : Accounted (s.dropFrameEnd l chars) := by
  unfold State.dropFrameEnd
  split <;> [skip; exact h]
  rename_i f _
  split <;> [skip; exact h]
  have hheard : Accounted ((s.storeReply l f (chars.take f.length)).hunt l) :=
    accounted_of_same (accounted_storeReply h l f _) rfl
  dsimp only
  split
  · split
    · exact accounted_judgeAnswer hheard l _ _
    · exact accounted_of_same hheard rfl
    · exact accounted_arriveReport hheard l _
  · exact accounted_damagedFrame hheard l _ _

theorem accounted_creditEarned : Accounted (s.creditEarned l) := by
  unfold State.creditEarned
  split <;> [exact accounted_of_same h rfl; exact h]

theorem accounted_releaseReached : Accounted (s.releaseReached l) := by
  unfold State.releaseReached
  split <;> [exact accounted_judgeHead h l; exact h]

theorem accounted_startFrame : Accounted (s.startFrame l) := by
  unfold State.startFrame
  split <;> [skip; exact h]
  split <;> [exact h; skip]
  rename_i r _
  exact accounted_of_same (accounted_onRecord h r.ticket (f := fun x => { x with sends := satInc 255 x.sends }) (fun _ => rfl)
    fun _ => rfl) rfl

theorem accounted_frameSent : Accounted (s.frameSent l) := by
  unfold State.frameSent
  split <;> [exact accounted_of_same h rfl; exact h]

theorem accounted_ackExpiry : Accounted (s.ackExpiry l) := by
  unfold State.ackExpiry
  split <;> [exact accounted_takeMiss (s := s.onLane l _) (accounted_of_same h rfl) l false; exact h]

theorem accounted_backoffExpiry : Accounted (s.backoffExpiry l) := by
  unfold State.backoffExpiry
  split <;> [exact accounted_of_same h rfl; exact h]

theorem accounted_dropBreakEnd : Accounted (s.dropBreakEnd l) := by
  unfold State.dropBreakEnd
  split <;> [exact accounted_of_same h rfl; exact h]

theorem accounted_dropResetEnd : Accounted (s.dropResetEnd l) := by
  unfold State.dropResetEnd
  split <;> [exact accounted_stopBusy (s := s.onLane l _) (accounted_of_same h rfl) l 0; exact h]

end

/-! ### Events of the control link, the resets and the advance -/

/-- Either reset has every block in the free set and no record (R1, R19, R45). -/
theorem accounted_afterReset (c : ResetCause) (straps : BitVec 2) (hrxLow : Bool) (pending : List Instr) :
    Accounted (State.afterReset c straps hrxLow pending) := by
  have hall : (State.afterReset c straps hrxLow pending).allBlocks = List.range Config.poolBlocks := by
    simp only [allBlocks_eq, State.afterReset, List.flatMap_nil, List.append_nil]
  exact ⟨⟨Nat.zero_le _, List.nodup_nil, fun _ hr => absurd hr List.not_mem_nil, Nat.le_refl 1, (by decide : 1 ≤ 65535)⟩,
    List.Perm.of_eq hall⟩

theorem accounted_foldl {g : State → LaneId → State} (hg : ∀ u l, Accounted u → Accounted (g u l)) (ls : List LaneId)
    {s : State} (h : Accounted s) : Accounted (ls.foldl g s) := by
  induction ls generalizing s with
  | nil => exact h
  | cons l ls ih => exact ih (hg s l h)

/-- A counter in 1..65535 has candidates in 1..65535 alone (R25). -/
theorem mem_ticketCandidates {n : Nat} {c t : Nat} (h1 : 1 ≤ c) (h2 : c ≤ 65535) (ht : t ∈ ticketCandidates n c) :
    1 ≤ t ∧ t ≤ 65535 := by
  rw [ticketCandidates_eq n h1 h2] at ht
  obtain ⟨k, -, rfl⟩ := List.mem_map.1 ht
  exact ⟨by omega, by omega⟩

/-- An advance moves no block (R98, R99). -/
theorem accounts_advance (s : State) (p : TickSample) : accounts (s.advance p) = accounts s := rfl

section
variable (body : List Byte) (s : State)

theorem accounts_runIdentify : accounts (runIdentify body s).2 = accounts s := by
  unfold runIdentify; split <;> rfl

theorem accounts_runPartStatus : accounts (runPartStatus body s).2 = accounts s := by
  unfold runPartStatus; split <;> [rfl; (dsimp only; split <;> rfl)]

theorem accounts_runPartConfig : accounts (runPartConfig body s).2 = accounts s := by
  unfold runPartConfig; split <;> rfl

theorem accounts_runRestart : accounts (runRestart body s).2 = accounts s := by
  unfold runRestart; split <;> rfl

theorem accounts_runLaneStatus : accounts (runLaneStatus body s).2 = accounts s := by
  unfold runLaneStatus; split <;> [rfl; (dsimp only; split <;> rfl)]

theorem accounts_runLaneReseqForce : accounts (runLaneReseqForce body s).2 = accounts s := by
  unfold runLaneReseqForce; split <;> [rfl; split] <;> rfl

theorem accounts_runLaneReseqMark : accounts (runLaneReseqMark body s).2 = accounts s := by
  unfold runLaneReseqMark; split <;> [rfl; split] <;> rfl

theorem accounts_runDropReset : accounts (runDropReset body s).2 = accounts s := by
  unfold runDropReset; split <;> [rfl; split] <;> rfl

theorem accounts_runQuery : accounts (runQuery body s).2 = accounts s := by
  unfold runQuery; split <;> [rfl; split] <;> rfl

theorem accounts_runReplyRead : accounts (runReplyRead body s).2 = accounts s := by
  unfold runReplyRead; split <;> [rfl; split] <;> [rfl; split_ifs] <;> rfl

theorem accounts_runCollect : accounts (runCollect body s).2 = accounts s := by
  unfold runCollect; split <;> rfl

theorem accounts_runReportTake : accounts (runReportTake body s).2 = accounts s := by
  unfold runReportTake; split <;> [rfl; split] <;> rfl

end

section
variable {s : State} (h : Accounted s)
include h

theorem accounted_controlStartByte : Accounted s.controlStartByte := by
  unfold State.controlStartByte
  split <;> [exact accounted_of_same h rfl; exact h]

theorem accounted_controlHeader (lenHi lenLo : Byte) : Accounted (s.controlHeader lenHi lenLo) := by
  unfold State.controlHeader
  split_ifs
  · exact accounted_of_same h rfl
  · exact accounted_of_same h rfl
  · exact h

theorem accounted_controlFrameEnd (chars : List Byte) : Accounted (s.controlFrameEnd chars) := by
  unfold State.controlFrameEnd
  split <;> [skip; exact h]
  split <;> [skip; exact h]
  dsimp only
  split <;> [skip; exact accounted_of_same h rfl]
  split <;> [skip; exact h]
  split <;> [skip; exact accounted_of_same h rfl]
  unfold State.goodRequest
  dsimp only
  split
  · exact accounted_of_same h rfl
  · exact accounted_of_same h rfl

theorem accounted_controlGap : Accounted s.controlGap := by
  unfold State.controlGap
  split <;> [exact accounted_of_same h rfl; exact h]

theorem accounted_linkBreak : Accounted s.linkBreak := by
  rcases linkBreak_cases s with ⟨-, e⟩ | ⟨-, -, e⟩ | ⟨-, -, e⟩ <;> rw [e]
  · exact h
  · exact accounted_afterReset _ _ _ _
  · exact accounted_of_same h rfl

theorem accounted_linkReset : Accounted s.linkReset := by
  unfold State.linkReset
  split <;> [exact accounted_of_same h rfl; exact h]

theorem accounted_seeHrx (x : HrxSample) : Accounted (s.seeHrx x) := by
  unfold State.seeHrx
  split <;> [exact accounted_linkReset h; exact h]

theorem accounted_quietExpiry : Accounted s.quietExpiry := by
  unfold State.quietExpiry
  split <;> [skip; exact h]
  refine accounted_grantScan (accounted_foldl (fun u l hu => ?_) _ (accounted_of_same h rfl))
  unfold State.holdQuiet
  split <;> [skip; exact hu]
  exact accounted_of_same (accounted_stopWaiting (s := u.setMode l .hold) (accounted_of_same hu rfl) l) rfl

theorem accounted_responseStart : Accounted s.responseStart := by
  unfold State.responseStart
  split <;> [exact h; skip]
  split <;> [exact accounted_of_same h rfl; exact h]

theorem accounted_noticeStart : Accounted s.noticeStart := by
  unfold State.noticeStart
  split <;> [exact h; skip]
  split <;> [exact accounted_of_same h rfl; exact h]

theorem accounted_controlFrameSent : Accounted s.controlFrameSent := by
  rcases controlFrameSent_cases s with ⟨-, e⟩ | ⟨-, -, e⟩ | ⟨-, e⟩ <;> rw [e]
  · exact h
  · exact accounted_afterReset _ _ _ _
  · exact accounted_of_same h rfl

theorem accounted_settleLane (l : LaneId) : Accounted (s.settleLane l) :=
  accounted_releaseReached (accounted_dropResetEnd (accounted_dropBreakEnd (accounted_backoffExpiry (accounted_ackExpiry
    (accounted_creditEarned h l) l) l) l) l) l

theorem accounted_settle (p : TickSample) : Accounted (s.settle p) := by
  refine accounted_foldl (fun _ l hu => accounted_startFrame hu l) _ ?_
  refine accounted_foldl (fun _ l hu => accounted_gapCut hu l _) _ (accounted_seeHrx ?_ _)
  refine accounted_linkBreak (accounted_controlGap (accounted_quietExpiry ?_))
  exact accounted_foldl (fun _ l hu => accounted_settleLane hu l) _ h

/-! ### Requests -/

theorem accounted_runLaneConfig (body : List Byte) : Accounted (runLaneConfig body s).2 := by
  unfold runLaneConfig
  split <;> [exact h; skip]
  split_ifs
  · exact h
  · exact h
  · exact accounted_of_same h rfl

theorem accounted_runLaneModeHold (body : List Byte) : Accounted (runLaneModeHold body s).2 := by
  unfold runLaneModeHold
  split <;> [exact h; skip]
  rename_i l _
  split
  · exact h
  · exact accounted_leaveWait (s := s.setMode l .hold) (accounted_of_same h rfl) l
  · exact accounted_of_same h rfl

theorem accounted_runLaneModePass (body : List Byte) : Accounted (runLaneModePass body s).2 := by
  unfold runLaneModePass
  split <;> [exact h; skip]
  rename_i l _
  split
  · dsimp only
    split
    · exact accounted_of_same h rfl
    · exact accounted_judgeHead (s := s.onLane l _) (accounted_of_same h rfl) l
  · exact h
  · exact h

theorem accounted_enterHalt (l : LaneId) : Accounted (s.enterHalt l) := by
  unfold State.enterHalt
  split
  · exact accounted_haltAbort h l _
  · exact accounted_leaveWait (s := s.setMode l .halt) (accounted_of_same h rfl) l

theorem accounted_runLaneModeHalt (body : List Byte) : Accounted (runLaneModeHalt body s).2 := by
  unfold runLaneModeHalt
  split <;> [exact h; skip]
  split
  · exact h
  · exact accounted_enterHalt h _
  · exact accounted_enterHalt h _

theorem accounted_flushLane (l : LaneId) : Accounted (s.flushLane l) := by
  have hflush (q : List Ticket) : Accounted (s.flushAll q) := by
    unfold State.flushAll
    induction q generalizing s with
    | nil => exact h
    | cons t q ih => exact ih (accounted_endRecord h t .cancelled .flushed none)
  exact accounted_grantScan (accounted_stopWaiting (s := State.onLane l _ _) (accounted_of_same (hflush _) rfl) l)

theorem accounted_runLaneFlush (body : List Byte) : Accounted (runLaneFlush body s).2 := by
  unfold runLaneFlush
  split <;> [exact h; skip]
  dsimp only
  split <;> [exact h; exact accounted_flushLane h _]

omit h in
/-- A ticket that the table issues is one of R25's, and no live record has it. -/
theorem issued_spec (hc : 1 ≤ s.table.counter ∧ s.table.counter ≤ 65535) {t : Ticket} (ht : s.table.issue = some t) :
    (1 ≤ t ∧ t ≤ 65535) ∧ ∀ r ∈ s.table.records, r.ticket ≠ t :=
  ⟨mem_ticketCandidates hc.1 hc.2 (List.mem_of_find?_eq_some ht), by simpa using List.find?_some ht⟩

/-- The payload chain of a new record comes from the free set, and its ticket is not live. -/
theorem accounted_created (a : SubmitArgs) {t : Ticket} (hroom : s.table.records.length < Config.maxRecords)
    (ht : s.table.issue = some t) : Accounted (created a t s) := by
  obtain ⟨⟨-, hnd, hrange, hc1, hc2⟩, hperm⟩ := h
  obtain ⟨⟨ht1, ht2⟩, hfree⟩ := issued_spec ⟨hc1, hc2⟩ ht
  refine ⟨⟨?_, ?_, fun r hr => ?_, ?_, ?_⟩, ?_⟩
  · simpa [created] using hroom
  · simp only [created, onTable_table, dropFree_table, List.map_append, List.map_cons, List.map_nil]
    refine List.nodup_append.2 ⟨hnd, List.nodup_singleton _, ?_⟩
    simp only [List.mem_map, List.mem_singleton]
    rintro _ ⟨r, hr, rfl⟩ _ rfl
    exact hfree r hr
  · rcases List.mem_append.1 hr with hr | hr
    · exact hrange r hr
    · rw [List.mem_singleton.1 hr]; exact ⟨ht1, ht2⟩
  · exact (Nat.le_add_left 1 (t % 65535)).trans_eq (nextTicket_eq ht1 ht2).symm
  · exact (nextTicket_eq ht1 ht2).trans_le (Nat.mod_lt t (by decide : 0 < 65535))
  · refine List.Perm.trans ?_ hperm
    rw [List.perm_iff_count]
    intro b
    have := congrArg (List.count b) (List.take_append_drop (blockCount a.payload.length) s.pool.free)
    simp only [created, allBlocks_eq, onTable_table, onTable_pool, State.dropFree, onPool_pool, onPool_table,
      List.flatMap_append, List.flatMap_cons, List.flatMap_nil, chains, newRecord, List.count_append, List.count_nil] at this ⊢
    omega

theorem accounted_createRecord (a : SubmitArgs) {t : Ticket} (hroom : s.table.records.length < Config.maxRecords)
    (ht : s.table.issue = some t) : Accounted (s.createRecord a t) :=
  accounted_grantScan (accounted_created h a hroom ht)

theorem accounted_runSubmit (body : List Byte) : Accounted (runSubmit body s).2 := by
  unfold runSubmit
  split <;> [exact h; skip]
  rename_i a _
  split_ifs with hfull
  · exact h
  · exact h
  · exact h
  · split <;> [exact h; skip]
    rename_i t ht
    have hmade := accounted_createRecord h a (Nat.lt_of_not_le hfull) ht
    unfold State.enqueue
    dsimp only
    split
    · exact accounted_headChanged (s := State.insertNew _ _ _ _) (accounted_of_same hmade rfl) _
    · exact accounted_of_same hmade rfl

theorem accounted_cancelQueued (r : Record) : Accounted (s.cancelQueued r) := by
  have hended : Accounted ((s.endRecord r.ticket .cancelled .byHost none).onLane r.lane fun x =>
      { x with queue := x.queue.erase r.ticket }) :=
    accounted_of_same (accounted_endRecord h r.ticket .cancelled .byHost none) rfl
  unfold State.cancelQueued
  dsimp only
  split_ifs
  · exact accounted_headChanged hended _
  · exact accounted_headChanged (accounted_grantScan hended) _
  · exact accounted_grantScan hended

theorem accounted_markActive (r : Record) : Accounted (s.markActive r) := by
  have hmarked : Accounted (s.onRecord r.ticket fun x => { x with cancelMark := true }) :=
    accounted_onRecord h r.ticket (fun _ => rfl) fun _ => rfl
  unfold State.markActive
  dsimp only
  split
  · exact accounted_cancelActive hmarked _ _ _
  · exact accounted_cancelActive hmarked _ _ _
  · exact hmarked

theorem accounted_runCancel (body : List Byte) : Accounted (runCancel body s).2 := by
  unfold runCancel
  split <;> [exact h; skip]
  split <;> [exact h; skip]
  split
  · exact accounted_cancelQueued h _
  · exact accounted_markActive h _
  · exact h
  · exact h
  · exact h

/-- The chains of a removed record return to the free set. -/
theorem accounted_retired {r : Record} (hr : s.record? r.ticket = some r) : Accounted (retired r s) := by
  obtain ⟨⟨hlen, hnd, hrange, hcount⟩, hperm⟩ := h
  obtain ⟨before, after, hsplit, hne, -⟩ := map_ticket_split hnd hr
  have hkeep (xs : List Record) (hx : ∀ x ∈ xs, x.ticket ≠ r.ticket) :
      (xs.filter fun x => x.ticket != r.ticket) = xs :=
    List.filter_eq_self.2 fun x h => bne_iff_ne.2 (hx x h)
  have hfilter : (s.table.records.filter fun x => x.ticket != r.ticket) = before ++ after := by
    rw [hsplit, List.filter_append, List.filter_cons_of_neg (by simp), hkeep before fun x h => hne x (by simp [h]),
      hkeep after fun x h => hne x (by simp [h])]
  have hsub : (s.table.records.filter fun x => x.ticket != r.ticket).Sublist s.table.records := List.filter_sublist
  refine ⟨⟨hsub.length_le.trans hlen, hnd.sublist (hsub.map _), fun x hx => hrange x (hsub.subset hx), hcount⟩, ?_⟩
  refine List.Perm.trans ?_ hperm
  rw [allBlocks_eq, allBlocks_eq, retired, onTable_table, returnBlocks_table, hfilter, hsplit, List.perm_iff_count]
  intro b
  simp only [onTable_pool, State.returnBlocks, onPool_pool, List.flatMap_append, List.flatMap_cons, chains, List.count_append]
  omega

theorem accounted_retireRecord {r : Record} (hr : s.record? r.ticket = some r) : Accounted (s.retireRecord r) := by
  rcases retireRecord_cases s r with ⟨-, e⟩ | ⟨-, e⟩ <;> rw [e]
  · exact accounted_retired h hr
  · exact accounted_grantScan (accounted_retired h hr)

theorem accounted_runRetire (body : List Byte) : Accounted (runRetire body s).2 := by
  unfold runRetire
  split <;> [exact h; skip]
  split <;> [exact h; skip]
  rename_i r hr
  split
  · exact accounted_retireRecord h (by rw [(record?_some hr).2]; exact hr)
  · exact h

/-- A request command keeps the law when its meaning on every body does. -/
theorem accounted_takeRequest {row : RequestRow} {run : List Byte → State → Reply × State}
    (hrun : ∀ body u, Accounted u → Accounted (run body u).2) : Accounted (s.takeRequest row run) := by
  rcases takeRequest_cases s row run with e | ⟨q, rest, -, -, e⟩ <;> rw [e]
  · exact h
  · exact accounted_of_same (hrun q.body (s.taken rest) (accounted_of_same h rfl)) rfl

/-- Every command completes in a state that obeys the law: one case for each row. -/
theorem accounted_exec (i : Instr) : ∃ t, exec i s = .next t ∧ Accounted t := by
  have request {row : RequestRow} {run : List Byte → State → Reply × State}
      (hrun : ∀ body u, accounts (run body u).2 = accounts u) : Accounted (s.takeRequest row run) :=
    accounted_takeRequest h fun body u hu => accounted_of_same hu (hrun body u)
  cases i with
  | identify => exact ⟨_, rfl, request accounts_runIdentify⟩
  | partStatus => exact ⟨_, rfl, request accounts_runPartStatus⟩
  | partConfig => exact ⟨_, rfl, request accounts_runPartConfig⟩
  | restart => exact ⟨_, rfl, request accounts_runRestart⟩
  | laneConfig => exact ⟨_, rfl, accounted_takeRequest h fun body _ hu => accounted_runLaneConfig hu body⟩
  | laneModeHold => exact ⟨_, rfl, accounted_takeRequest h fun body _ hu => accounted_runLaneModeHold hu body⟩
  | laneModePass => exact ⟨_, rfl, accounted_takeRequest h fun body _ hu => accounted_runLaneModePass hu body⟩
  | laneModeHalt => exact ⟨_, rfl, accounted_takeRequest h fun body _ hu => accounted_runLaneModeHalt hu body⟩
  | laneStatus => exact ⟨_, rfl, request accounts_runLaneStatus⟩
  | laneFlush => exact ⟨_, rfl, accounted_takeRequest h fun body _ hu => accounted_runLaneFlush hu body⟩
  | laneReseqForce => exact ⟨_, rfl, request accounts_runLaneReseqForce⟩
  | laneReseqMark => exact ⟨_, rfl, request accounts_runLaneReseqMark⟩
  | dropReset => exact ⟨_, rfl, request accounts_runDropReset⟩
  | submit => exact ⟨_, rfl, accounted_takeRequest h fun body _ hu => accounted_runSubmit hu body⟩
  | cancel => exact ⟨_, rfl, accounted_takeRequest h fun body _ hu => accounted_runCancel hu body⟩
  | query => exact ⟨_, rfl, request accounts_runQuery⟩
  | replyRead => exact ⟨_, rfl, request accounts_runReplyRead⟩
  | collect => exact ⟨_, rfl, request accounts_runCollect⟩
  | retire => exact ⟨_, rfl, accounted_takeRequest h fun body _ hu => accounted_runRetire hu body⟩
  | reportTake => exact ⟨_, rfl, request accounts_runReportTake⟩
  | unknownRequest => exact ⟨_, rfl, request fun _ _ => rfl⟩
  | controlHeaderTaken lenHi lenLo => exact ⟨_, rfl, accounted_controlHeader h lenHi lenLo⟩
  | controlFrameEnd chars => exact ⟨_, rfl, accounted_controlFrameEnd h chars⟩
  | controlFrameGap => exact ⟨_, rfl, accounted_controlGap h⟩
  | linkBreak => exact ⟨_, rfl, accounted_linkBreak h⟩
  | linkReset => exact ⟨_, rfl, accounted_linkReset h⟩
  | hostQuietExpiry => exact ⟨_, rfl, accounted_quietExpiry h⟩
  | responseStart => exact ⟨_, rfl, accounted_responseStart h⟩
  | noticeStart => exact ⟨_, rfl, accounted_noticeStart h⟩
  | controlFrameSent => exact ⟨_, rfl, accounted_controlFrameSent h⟩
  | restartReset pins =>
    refine ⟨_, rfl, ?_⟩
    split
    · exact accounted_afterReset _ _ _ _
    · exact h
  | pinReset low pins =>
    refine ⟨_, rfl, ?_⟩
    unfold State.pinReset
    split
    · exact accounted_of_same (accounted_afterReset .resetPin s.link.speed false s.pending)
        (by simp only [accounts, State.whileReset])
    · exact accounted_afterReset _ _ _ _
  | tick pins =>
    refine ⟨_, rfl, ?_⟩
    split
    · exact h
    · exact accounted_of_same (accounted_settle h pins) (accounts_advance _ pins)
  | slotCreditEarned lane => exact ⟨_, rfl, accounted_creditEarned h lane⟩
  | releaseTimeReached lane => exact ⟨_, rfl, accounted_releaseReached h lane⟩
  | transmissionStart lane => exact ⟨_, rfl, accounted_startFrame h lane⟩
  | dropFrameSent lane => exact ⟨_, rfl, accounted_frameSent h lane⟩
  | dropHeaderTaken lane control lenHi lenLo => exact ⟨_, rfl, accounted_dropHeader h lane control lenHi lenLo⟩
  | dropGapCut lane cut => exact ⟨_, rfl, accounted_gapCut h lane cut⟩
  | dropFrameEnd lane chars => exact ⟨_, rfl, accounted_dropFrameEnd h lane chars⟩
  | ackTimeout lane => exact ⟨_, rfl, accounted_ackExpiry h lane⟩
  | backoffExpiry lane => exact ⟨_, rfl, accounted_backoffExpiry h lane⟩
  | dropResetBreakEnd lane => exact ⟨_, rfl, accounted_dropBreakEnd h lane⟩
  | dropResetEnd lane => exact ⟨_, rfl, accounted_dropResetEnd h lane⟩
  | dropStartByte lane => exact ⟨_, rfl, accounted_dropStartByte h lane⟩
  | controlStartByte => exact ⟨_, rfl, accounted_controlStartByte h⟩
  | dropFramingFault lane taken => exact ⟨_, rfl, accounted_cutFrame h lane taken⟩

end

/-- Settles O59: an idle step leaves the state, and every command completes in a lawful one. -/
theorem everyStepConservesBlocksAndTickets : Obligations.EveryStepConservesBlocksAndTickets := by
  intro s t h hstep
  unfold step at hstep
  split at hstep
  · exact Host.Outcome.next.inj hstep ▸ h
  · rename_i c rest _
    have h' : Accounted { s with pending := rest } := h
    obtain ⟨u, hu, hlaw⟩ := accounted_exec h' c
    obtain rfl : u = t := Host.Outcome.next.inj (hu.symm.trans hstep)
    exact hlaw

end Sys2Proof.Proofs.Blocks
end

section
/-! PROOFS. The selection of a head and the grant scan, entry by entry: what each step of R6, R7, R11 to R14 and R52 to R54
leaves of the state. -/

namespace Sys2Proof.Proofs.HeadSelection

-- One theorem at a time: each elaboration thread takes 1 GiB of the check's memory limit.
set_option Elab.async false

open Sys2Proof Sys2Proof.Machine Sys2Proof.Proofs.Messages Sys2Proof.Proofs.LaneQueues Sys2Proof.Proofs.LaneModes

/-! ### Activation, field by field (R12, R27, R76) -/

/-- The reservation and the activation of a record are one rewriting of it. -/
theorem activate_eq_activated (s : State) (l : LaneId) (r : Record) (n : Nat) :
    s.activate l r.ticket n = s.activated l r n := by
  have hone := onRecord_onRecord s r.ticket (f := fun x => { x with replyChain := x.replyChain ++ s.pool.free.take n })
    (fun _ => rfl) fun x => { x with state := .active, misses := 0, busies := 0, uncertain := false }
  calc s.activate l r.ticket n
      = (((s.onRecord r.ticket fun x => { x with replyChain := x.replyChain ++ s.pool.free.take n }).onRecord r.ticket
          fun x => { x with state := .active, misses := 0, busies := 0, uncertain := false }).dropFree n).onLane l fun x =>
          { x with queue := x.queue.erase r.ticket, active := some r.ticket, phase := .waitSlot, ready := .data
                   busyCount := 0 } := rfl
    _ = s.activated l r n := by rw [hone]; rfl

/-- A release time is reached in the terms of R52. -/
theorem released_eq (now : PartTime) (at? : Option PartTime) :
    released now at? = at?.all fun t => decide ((now - t).toNat < 2 ^ 31) := by
  cases at? <;> rfl

theorem isWaiting_iff (s : State) (l : LaneId) : s.isWaiting l = true ↔ ∃ e ∈ s.pool.waiting, e.lane = l := by
  simp [State.isWaiting]

theorem not_isWaiting_iff (s : State) (l : LaneId) : s.isWaiting l = false ↔ ∀ e ∈ s.pool.waiting, e.lane ≠ l := by
  simp [State.isWaiting]

/-! ### The judgement of a head (R6, R7, R52 to R54) -/

section
variable {s : State} {l : LaneId} {r : Record}

/-- No need, or an immediate grant: the head is ACTIVE (R6, R7). -/
theorem judgeHead_of_fits (hr : s.head? l = some r) (ht : released s.time r.releaseTime = true)
    (hfit : r.replyNeed = 0 ∨ s.pool.waiting = [] ∧ r.replyNeed ≤ s.freeCount ∧
      s.held l + r.replyNeed ≤ (s.lane l).config.cap) : s.judgeHead l = s.activated l r r.replyNeed := by
  rw [judgeHead_of_due hr ht, ← activate_eq_activated]
  rcases spaceStep_cases s l r with ⟨-, e⟩ | ⟨hne, u, -, -⟩
  · exact e
  · obtain ⟨hnil, hfree, hcap⟩ := hfit.resolve_left hne
    have hgrant : (s.pool.waiting.isEmpty && decide (r.replyNeed ≤ s.freeCount) &&
        decide (s.held l + r.replyNeed ≤ (s.lane l).config.cap)) = true := by simp [hnil, hfree, hcap]
    rw [State.spaceStep, if_neg hne, if_pos hgrant]

/-- Otherwise the lane joins the list, a scan follows, and SPACE_WAIT is raised where the entry is still there (R7). -/
theorem judgeHead_of_waits (hr : s.head? l = some r) (ht : released s.time r.releaseTime = true) (hne : r.replyNeed ≠ 0)
    (hfit : ¬(s.pool.waiting = [] ∧ r.replyNeed ≤ s.freeCount ∧ s.held l + r.replyNeed ≤ (s.lane l).config.cap)) :
    let u := ((s.setPhase l .waitSpace).appendWaiting ⟨l, r.replyNeed⟩).grantScan
    (u.isWaiting l = false → s.judgeHead l = u) ∧
    (u.isWaiting l = true → s.judgeHead l = u.raiseLane l .spaceWait r.ticket (.need r.replyNeed)) := by
  intro u
  rw [judgeHead_of_due hr ht]
  rcases spaceStep_cases s l r with ⟨hfits, -⟩ | ⟨-, v, hv, hcases⟩
  · exact absurd hfits (not_or.2 ⟨hne, hfit⟩)
  · obtain rfl : v = u := hv
    rcases hcases with ⟨hw, e⟩ | ⟨hw, e⟩
    · exact ⟨fun h => absurd (hw.symm.trans h) (by decide), fun _ => e⟩
    · exact ⟨fun _ => e, fun h => absurd (hw.symm.trans h) (by decide)⟩

/-- RELEASE_TIME_REACHED acts in PASS and WAIT_TIME on a head whose time is reached (R54). -/
theorem releaseDue_iff (hr : s.head? l = some r) :
    s.releaseDue l = true ↔
      (s.lane l).mode = .pass ∧ (s.lane l).phase = .waitTime ∧ released s.time r.releaseTime = true := by
  simp only [State.releaseDue, hr, Bool.and_eq_true, beq_iff_eq, and_assoc]

end

/-- Settles O45, along the branches of the judgement: no head, an early head, a head that fits, a head that waits. -/
theorem headIsJudgedByTimeThenSpace : Obligations.HeadIsJudgedByTimeThenSpace := by
  refine ⟨fun s l hnil => judgeHead_of_none (head?_of_nil hnil), ?_⟩
  intro s l r hr passed need fits
  have hpassed : released s.time r.releaseTime = passed := released_eq _ _
  have hexec : exec (.releaseTimeReached l) s = .next (s.releaseReached l) := rfl
  refine ⟨fun hlate => ?_, fun hdue => ⟨fun hfit => ?_, fun hne hfit => ?_⟩, fun hmode hphase hdue => ?_, fun hnot => ?_⟩
  · exact judgeHead_of_early hr (hpassed.trans hlate)
  · exact judgeHead_of_fits hr (hpassed.trans hdue) hfit
  · intro u
    obtain ⟨hgone, hstays⟩ := judgeHead_of_waits hr (hpassed.trans hdue) hne hfit
    exact ⟨fun h => hgone ((not_isWaiting_iff u l).2 h), fun h => hstays ((isWaiting_iff u l).2 h)⟩
  · rw [hexec, State.releaseReached, if_pos ((releaseDue_iff hr).2 ⟨hmode, hphase, hpassed.trans hdue⟩)]
  · rw [hexec, State.releaseReached, if_neg]
    rw [releaseDue_iff hr, hpassed]
    rintro ⟨hmode, hphase, hdue⟩
    rcases hnot with h | h | h
    · exact h hmode
    · exact h hphase
    · rw [hdue] at h; cases h

/-! ### A head change in WAIT_SPACE (R13, R14) -/

/-- Settles O46, along the branches of the head change. -/
theorem headChangeUpdatesTheWaitingEntry : Obligations.HeadChangeUpdatesTheWaitingEntry := by
  intro s l left
  have hleft (p : Phase) : (s.removeWaiting l).setPhase l p = left p := rfl
  refine ⟨fun hnil => ?_, fun r hr => ?_⟩
  · rcases updateNeed_cases s l with ⟨-, e⟩ | ⟨r, hr, -⟩
    · rw [e, hleft]
    · rw [head?_of_nil hnil] at hr; cases hr
  · intro passed need
    have hpassed : released s.time r.releaseTime = passed := released_eq _ _
    have hstays : left (s.lane l).phase = s.removeWaiting l := by
      change (s.withLane l (s.lane l)).removeWaiting l = _
      rw [withLane_lane]
    rcases updateNeed_cases s l with ⟨hnone, -⟩ | ⟨r', hr', hcases⟩
    · rw [hr] at hnone; cases hnone
    · obtain rfl : r' = r := Option.some.inj (hr'.symm.trans hr)
      rw [hpassed] at hcases
      refine ⟨fun hlate => ?_, fun hdue h0 => ?_, fun hdue hne => ?_⟩
      · rcases hcases with ⟨-, e⟩ | ⟨hd, -⟩ | ⟨hd, -⟩
        · rw [e, hleft]
        · rw [hlate] at hd; cases hd
        · rw [hlate] at hd; cases hd
      · rcases hcases with ⟨hl, -⟩ | ⟨-, -, e⟩ | ⟨-, hn, -⟩
        · rw [hdue] at hl; cases hl
        · rw [e, activate_eq_activated, hstays]
        · exact absurd h0 hn
      · rcases hcases with ⟨hl, -⟩ | ⟨-, hn, -⟩ | ⟨-, -, e⟩
        · rw [hdue] at hl; cases hl
        · exact absurd hn hne
        · exact e

/-! ### The walk of the scan (R11, R12) -/

theorem capBlocked_iff (s : State) (e : WaitEntry) :
    s.capBlocked e = true ↔ (s.lane e.lane).config.cap < s.held e.lane + e.need := decide_eq_true_iff

theorem not_capBlocked_iff (s : State) (e : WaitEntry) :
    s.capBlocked e = false ↔ s.held e.lane + e.need ≤ (s.lane e.lane).config.cap := by
  rw [State.capBlocked, decide_eq_false_iff_not, Nat.not_lt]

/-- Settles O48: the three rows of R11, and the grant field by field. -/
theorem scanWalksFromTheOldest : Obligations.ScanWalksFromTheOldest := by
  intro s e younger r hr
  rw [← capBlocked_iff, ← not_capBlocked_iff]
  refine ⟨fun hblocked => ?_, fun hopen => ⟨fun hfits => ?_, fun hlacks => ?_⟩⟩
  · rw [State.scanFrom, if_pos hblocked]
  · rw [State.scanFrom, if_neg (by simp [hopen]), if_pos hfits, grant_of_head hr, activate_eq_activated]
    rfl
  · rw [State.scanFrom, if_neg (by simp [hopen]), if_neg (Nat.not_le.2 hlacks)]

end Sys2Proof.Proofs.HeadSelection
end

section
/-! PROOFS. Requests that are taken as they stand: REPORT_TAKE, an accepted SUBMIT, and the bodies with a bad argument. -/

namespace Sys2Proof.Proofs.Arguments

-- One theorem at a time: each elaboration thread takes 1 GiB of the check's memory limit.
set_option Elab.async false

open Sys2Proof Sys2Proof.Machine Sys2Proof.Proofs.Messages Sys2Proof.Proofs.LaneQueues Sys2Proof.Proofs.LaneModes
  Sys2Proof.Proofs.DropLine Sys2Proof.Proofs.PartRequests

/-! ### REPORT_TAKE (R143) -/

theorem exec_reportTake_of_run {s u : State} {tag : Byte} {args : List Byte} {rest : List Request} {r : Reply}
    (h : Taken s ⟨tag, 0x30 :: args⟩ rest) (hrun : runReportTake (0x30 :: args) (s.taken rest) = (r, u)) :
    exec .reportTake s = .next (u.appends tag (0x30 :: r.status.code :: r.content)) :=
  congrArg Host.Outcome.next (takeRequest_of_run h rfl hrun)

/-- Settles O43, along the checks of R143. -/
theorem reportTakeRemovesTheOldest : Obligations.ReportTakeRemovesTheOldest := by
  intro s tag rest
  refine ⟨fun args h hlen => ?_, fun lane h hlane => ?_, fun l h => ⟨fun hnil => ?_, fun p held hheld => ?_⟩⟩
  · exact exec_reportTake_of_run (r := .refuse .badLength) h (by rw [runReportTake, laneArgs_of_length hlen])
  · exact exec_reportTake_of_run (r := .refuse .badArgument) h
      (by rw [runReportTake, laneArgs, laneArgument_of_ge hlane])
  · have hrun : runReportTake [0x30, BitVec.ofNat 8 l.val] (s.taken rest) = (.refuse .empty, s.taken rest) := by
      simp only [runReportTake, laneArgs, laneArgument_ofNat, lane_taken, hnil]
    exact exec_reportTake_of_run h hrun
  · have hrun : runReportTake [0x30, BitVec.ofNat 8 l.val] (s.taken rest) =
        (.ok ([BitVec.ofNat 8 p.bytes.length] ++ bytesOf 4 p.arrival.toNat ++ [BitVec.ofNat 8 held.length] ++ p.bytes),
          (s.taken rest).withLane l { s.lane l with holding := held }) := by
      simp only [runReportTake, laneArgs, laneArgument_ofNat, lane_taken, hheld, bytesOf_one]
      rfl
    exact exec_reportTake_of_run h hrun

/-! ### SUBMIT accepted (R5, R35, R36, R48, R51) -/

/-- Every check of R33 passed: the record is made and joins its queue. -/
theorem runSubmit_of_room {s : State} {a : SubmitArgs} {t : Ticket} (ha : a.Legal) (hroom : s.table.records.length < 128)
    (hcap : s.held a.lane + blockCount a.payload.length ≤ (s.lane a.lane).config.cap)
    (hfree : s.protectedSum + blockCount a.payload.length ≤ s.freeCount) (ht : s.table.issue = some t) :
    runSubmit (submitBody a) s = (.ok (bytesOf 2 t), (s.createRecord a t).enqueue a t) := by
  rw [runSubmit_of_legal s ha, if_neg (Nat.not_le.2 hroom), if_neg (Nat.not_lt.2 hcap), if_neg (Nat.not_lt.2 hfree), ht]

/-- Where a queue is cut behind its URGENT run, a new ticket stands between the parts, or at the end (R48). -/
theorem insertNew_eq {s : State} {l : LaneId} {urgents normals : List Ticket}
    (hq : (s.lane l).queue = urgents ++ normals) (hu : ∀ b ∈ urgents, s.isUrgent b = true)
    (hn : ∀ b ∈ normals.head?, s.isUrgent b = false) (t : Ticket) (urgent : Bool) :
    s.insertNew l t urgent = s.withLane l { s.lane l with
      queue := if urgent then urgents ++ t :: normals else (s.lane l).queue ++ [t] } := by
  rw [State.insertNew, onLane_eq_withLane, hq, afterUrgent_eq hu hn]

/-- Settles O35: the record is made, inserted, and the lane listens to the head change in three phases of PASS. -/
theorem submitCreatesAndQueuesTheRecord : Obligations.SubmitCreatesAndQueuesTheRecord := by
  intro s tag a t rest h ha need hroom hcap hfree ht r made urgents normals hq hu hn queue placed answer
  have hrun := runSubmit_of_room (s := s.taken rest) ha hroom hcap hfree ht
  have hmade : (s.taken rest).createRecord a t = made := rfl
  have hplaced : made.insertNew a.lane t a.urgent = placed := insertNew_eq hq hu hn t a.urgent
  have hlane : placed.lane a.lane = { made.lane a.lane with queue := queue } := lane_withLane_self _ _ _
  have hexec : exec .submit s =
      .next ((if queue.head? = some t then placed.headChanged a.lane else placed).appends tag answer) := by
    rw [submitBody_eq] at h hrun
    rw [exec_submit_of_run h hrun, State.enqueue, hmade, hplaced, hlane]
    rfl
  rw [hexec]
  refine ⟨fun hmode hphase hhead => ?_, fun hmode hphase hhead => ?_, fun hdeaf => ?_⟩
  · have hjudges : placed.headChanged a.lane = placed.judgeHead a.lane := by
      simp only [State.headChanged, hlane, hmode]
      rcases hphase with hphase | hphase <;> rw [hphase]
    rw [if_pos hhead, hjudges]
  · have hupdates : placed.headChanged a.lane = placed.updateNeed a.lane := by
      simp only [State.headChanged, hlane, hmode, hphase]
    rw [if_pos hhead, hupdates]
  · by_cases hhead : queue.head? = some t
    · have hsame : placed.headChanged a.lane = placed := by
        refine headChanged_of_deaf ?_
        rw [hlane]
        exact hdeaf.imp_right fun hd => hd.resolve_left (not_not.2 hhead)
      rw [if_pos hhead, hsame]
    · rw [if_neg hhead]

/-! ### Bodies with a bad argument (R168, R190) -/

theorem partStatusArgs_of_bad {flags : Byte} (h : badArgument [0x02, flags] = true) :
    partStatusArgs [0x02, flags] = .error .badArgument :=
  clearFlag_of_gt (of_decide_eq_true h)

theorem getLsbD_eight_append (m1 m0 : Byte) : (m1 ++ m0 : BitVec 16).getLsbD 8 = decide (m1.toNat % 2 = 1) := by
  have hbit : m1.getLsbD 0 = decide (m1.toNat % 2 = 1) := by revert m1; decide
  rw [BitVec.getLsbD_append, if_neg (by decide), ← hbit]

theorem toNat_append_bytes (m1 m0 : Byte) : (m1 ++ m0 : BitVec 16).toNat = m1.toNat * 256 + m0.toNat := by
  rw [BitVec.toNat_append, ← Nat.shiftLeft_add_eq_or_of_lt m0.isLt, Nat.shiftLeft_eq]

/-- STARTED masked, a setting beyond the twelve kinds, or a limit out of range. -/
theorem partConfigArgs_of_bad {m1 m0 q1 q0 : Byte} (h : badArgument [0x03, m1, m0, q1, q0] = true) :
    partConfigArgs [0x03, m1, m0, q1, q0] = .error .badArgument := by
  have hbad : (m1.toNat * 256 + m0.toNat) / 256 % 2 = 0 ∨ 0x1000 ≤ m1.toNat * 256 + m0.toNat ∨
      (1 ≤ q1.toNat * 256 + q0.toNat ∧ q1.toNat * 256 + q0.toNat ≤ 9) ∨ 60000 < q1.toNat * 256 + q0.toNat := by
    simpa [badArgument, or_assoc] using h
  rw [partConfigArgs, argument, if_neg]
  rw [Bool.and_eq_true, maskLegal_iff, quietLimitLegal_iff, getLsbD_eight_append, toNat_append_bytes, natOf_pair,
    decide_eq_true_eq]
  omega

theorem lt_eight_of_laneOf {b : Byte} {l : LaneId} (h : laneOf b = some l) : b.toNat < 8 := by
  by_contra hb
  rw [laneOf_of_ge (Nat.not_lt.1 hb)] at h
  cases h

theorem le_one_of_failurePolicyOf {b : Byte} {p : FailurePolicy} (h : failurePolicyOf b = some p) : b.toNat ≤ 1 := by
  unfold failurePolicyOf at h
  split_ifs at h with h0 h1
  · rw [h0]; decide
  · rw [h1]; decide

/-- A field of the configuration record out of the ranges of R65, or N above D. -/
theorem laneConfigArgs_of_bad {args : List Byte} (hlen : args.length = 20) (h : badArgument (0x10 :: args) = true) :
    laneConfigArgs (0x10 :: args) = .error .badArgument := by
  match args, hlen with
  | [lane, rate, n1, n0, d1, d0, burst, a1, a0, k1, k0, retry, busy, policy, r1, r0, c1, c0, q1, q0], _ =>
    have hbad : 8 ≤ lane.toNat ∨ 7 < rate.toNat ∨ d1.toNat * 256 + d0.toNat < n1.toNat * 256 + n0.toNat ∨
        d1.toNat * 256 + d0.toNat = 0 ∨ burst.toNat = 0 ∨ 8 < burst.toNat ∨ a1.toNat * 256 + a0.toNat = 0 ∨
        1000 < a1.toNat * 256 + a0.toNat ∨ k1.toNat * 256 + k0.toNat = 0 ∨ 1000 < k1.toNat * 256 + k0.toNat ∨
        15 < retry.toNat ∨ 1 < policy.toNat ∨ 512 < r1.toNat * 256 + r0.toNat ∨ 512 < c1.toNat * 256 + c0.toNat := by
      have hfields : (_ || _ : Bool) = true := h
      simp only [Bool.or_eq_true, decide_eq_true_eq, or_assoc] at hfields
      exact hfields
    rw [laneConfigArgs]
    split
    · rename_i l p hl hp
      have h8 := lt_eight_of_laneOf hl
      have h1 := le_one_of_failurePolicyOf hp
      dsimp only
      rw [argument, if_neg]
      simp only [LaneConfig.legal, natOf_pair, Bool.and_eq_true, decide_eq_true_eq]
      omega
    · rfl

theorem laneModeArgs_of_bad {lane target : Byte} (h : badArgument [0x11, lane, target] = true) :
    laneModeArgs [0x11, lane, target] = .error .badArgument := by
  have hbad : 8 ≤ lane.toNat ∨ 2 < target.toNat := by simpa [badArgument] using h
  rw [laneModeArgs]
  split_ifs with ht
  · exact laneArgument_of_ge (hbad.resolve_right (Nat.not_lt.2 ht))
  · rfl

theorem laneStatusArgs_of_bad {lane flags : Byte} (h : badArgument [0x12, lane, flags] = true) :
    laneStatusArgs [0x12, lane, flags] = .error .badArgument :=
  laneStatusArgs_of_illegal (by simpa [badArgument] using h)

/-- A byte is the number that it spells. -/
theorem eq_ofNat_iff (b : Byte) {n : Nat} (hn : n < 256) : b = BitVec.ofNat 8 n ↔ b.toNat = n := by
  rw [← BitVec.toNat_inj, BitVec.toNat_ofNat, Nat.mod_eq_of_lt hn]

theorem laneReseqArgs_of_bad {lane action bit : Byte} (h : badArgument [0x14, lane, action, bit] = true) :
    laneReseqArgs [0x14, lane, action, bit] = .error .badArgument := by
  have hbad : 8 ≤ lane.toNat ∨ action.toNat = 0 ∨ 2 < action.toNat ∨ (action.toNat = 1 ∧ 1 < bit.toNat) ∨
      (action.toNat = 2 ∧ bit.toNat ≠ 0) := by
    have hfields : (_ || _ : Bool) = true := h
    simp only [Bool.or_eq_true, Bool.and_eq_true, decide_eq_true_eq, or_assoc] at hfields
    exact hfields
  refine laneReseqArgs_of_illegal ?_
  rw [ne_eq, ne_eq, ne_eq, eq_ofNat_iff action (by decide), eq_ofNat_iff action (by decide), eq_ofNat_iff bit (by decide)]
  omega

theorem laneArgs_of_bad {c lane : Byte} (hc : c = 0x13 ∨ c = 0x15 ∨ c = 0x30) (h : badArgument [c, lane] = true) :
    laneArgs [c, lane] = .error .badArgument := by
  refine laneArgument_of_ge ?_
  rcases hc with rfl | rfl | rfl <;> exact of_decide_eq_true h

theorem ticketArgs_of_bad {c hi lo : Byte} (hc : c = 0x21 ∨ c = 0x22 ∨ c = 0x25) (h : badArgument [c, hi, lo] = true) :
    ticketArgs [c, hi, lo] = .error .badArgument := by
  refine ticketArgs_of_zero ?_
  rcases hc with rfl | rfl | rfl <;> exact of_decide_eq_true h

theorem replyReadArgs_of_bad {t1 t0 o1 o0 c1 c0 : Byte} (h : badArgument [0x23, t1, t0, o1, o0, c1, c0] = true) :
    replyReadArgs [0x23, t1, t0, o1, o0, c1, c0] = .error .badArgument := by
  have hbad : t1.toNat * 256 + t0.toNat = 0 ∨ c1.toNat * 256 + c0.toNat = 0 ∨ 256 < c1.toNat * 256 + c0.toNat := by
    have hfields : (_ || _ : Bool) = true := h
    simp only [Bool.or_eq_true, decide_eq_true_eq, or_assoc] at hfields
    exact hfields
  rw [replyReadArgs_eq, if_neg (by omega)]

theorem collectArgs_of_bad {filter maximum : Byte} (h : badArgument [0x24, filter, maximum] = true) :
    collectArgs [0x24, filter, maximum] = .error .badArgument := by
  refine collectArgs_of_illegal ?_
  have hfields : (_ || _ : Bool) = true := h
  simp only [Bool.or_eq_true, Bool.and_eq_true, decide_eq_true_eq, or_assoc] at hfields
  exact hfields

/-- The flags that move the fields of a SUBMIT body, as numbers. -/
theorem submitFlags_bits (flags : Byte) :
    flags.getLsbD 2 = decide (4 ≤ flags.toNat % 8) ∧ flags.getLsbD 3 = decide (8 ≤ flags.toNat % 16) ∧
      flags.getLsbD 4 = decide (16 ≤ flags.toNat % 32) ∧ (flags &&& 0xE0#8 == 0) = decide (flags.toNat < 32) := by
  revert flags; decide

/-- Where the bullets of R190 look for the fields of a SUBMIT body. -/
theorem badArgument_submit (lane flags : Byte) (rest : List Byte) :
    badArgument (0x20 :: lane :: flags :: rest) =
      (decide (8 ≤ lane.toNat) || decide (32 ≤ flags.toNat) ||
        (decide (16 ≤ flags.toNat % 32) && (decide (flags.toNat % 8 < 4) ||
          decide (512 < (rest.getD (timeBytes flags) 0).toNat * 256 + (rest.getD (timeBytes flags + 1) 0).toNat))) ||
        decide (512 < (rest.getD (timeBytes flags + limitBytes flags) 0).toNat * 256 +
          (rest.getD (timeBytes flags + limitBytes flags + 1) 0).toNat)) := by
  obtain ⟨-, h3, h4, -⟩ := submitFlags_bits flags
  unfold timeBytes limitBytes
  rw [h3, h4]
  by_cases h8 : 8 ≤ flags.toNat % 16 <;> by_cases h16 : 16 ≤ flags.toNat % 32 <;> simp [badArgument, h8, h16]

/-- Two bytes in the middle of a body as a number. -/
theorem natOf_take_drop {bytes : List Byte} {i : Nat} (h : i + 2 ≤ bytes.length) :
    natOf ((bytes.drop i).take 2) = (bytes.getD i 0).toNat * 256 + (bytes.getD (i + 1) 0).toNat := by
  have hcut : bytes.drop i = bytes[i] :: bytes[i + 1] :: bytes.drop (i + 2) := by
    rw [List.drop_eq_getElem_cons (by omega), List.drop_eq_getElem_cons (by omega)]
  rw [hcut, List.take_succ_cons, List.take_succ_cons, List.take_zero, natOf_pair, List.getD_eq_getElem _ _ (by omega),
    List.getD_eq_getElem _ _ (by omega)]

/-- A SUBMIT body of the right length has its payload behind the payload's length, where the flags say (R189). -/
theorem exists_payload_of_submitLengthOk {c : Byte} {args : List Byte} (h : submitLengthOk (c :: args) = true) :
    ∃ lane flags rest p1 p0 payload, args = lane :: flags :: rest ∧
      rest.drop (timeBytes flags + limitBytes flags) = p1 :: p0 :: payload ∧ payload.length = natOf [p1, p0] := by
  match args with
  | [] => cases h
  | [_] => cases h
  | lane :: flags :: rest =>
    have hok : (decide (3 + timeBytes flags + limitBytes flags + 2 ≤ rest.length + 3) &&
        rest.length + 3 == 3 + timeBytes flags + limitBytes flags + 2 +
          natOf (((c :: lane :: flags :: rest).drop (3 + timeBytes flags + limitBytes flags)).take 2)) = true := h
    rw [Nat.add_assoc 3, ← List.drop_drop, List.drop_succ_cons, List.drop_succ_cons, List.drop_succ_cons, List.drop_zero,
      Bool.and_eq_true, decide_eq_true_eq, beq_iff_eq] at hok
    obtain ⟨hroom, hlen⟩ := hok
    have htail : (rest.drop (timeBytes flags + limitBytes flags)).length = rest.length - (timeBytes flags + limitBytes flags) :=
      List.length_drop
    match hp : rest.drop (timeBytes flags + limitBytes flags) with
    | [] => rw [hp, List.length_nil] at htail; omega
    | [_] => rw [hp, List.length_singleton] at htail; omega
    | p1 :: p0 :: payload =>
      rw [hp, List.length_cons, List.length_cons] at htail
      rw [hp, List.take_succ_cons, List.take_succ_cons, List.take_zero] at hlen
      exact ⟨lane, flags, rest, p1, p0, payload, rfl, hp, by omega⟩

/-- A lane, a flag, a limit without its flag or a length out of range (R34). -/
theorem submitArgs_of_bad {args : List Byte} (hlen : submitLengthOk (0x20 :: args) = true)
    (h : badArgument (0x20 :: args) = true) : submitArgs (0x20 :: args) = .error .badArgument := by
  obtain ⟨lane, flags, rest, p1, p0, payload, rfl, hp, hpayload⟩ := exists_payload_of_submitLengthOk hlen
  obtain ⟨h2, -, h4, h7⟩ := submitFlags_bits flags
  have hget (i : Nat) : rest.getD (timeBytes flags + limitBytes flags + i) 0 = (p1 :: p0 :: payload).getD i 0 := by
    rw [← hp, List.getD_eq_getElem?_getD, List.getD_eq_getElem?_getD, List.getElem?_drop]
  have h0 := hget 0
  have h1 := hget 1
  simp only [Nat.add_zero, List.getD_cons_zero, List.getD_cons_succ] at h0 h1
  rw [badArgument_submit, h0, h1, ← natOf_pair p1 p0, ← hpayload] at h
  simp only [submitArgs, hp, if_pos hpayload]
  cases hl : laneOf lane with
  | none => rfl
  | some l =>
    have h8 := lt_eight_of_laneOf hl
    refine if_neg fun hlegal => ?_
    simp only [submitLegal, h2, h4, h7, Bool.and_eq_true, Bool.or_eq_true, Bool.not_eq_true', decide_eq_true_eq,
      decide_eq_false_iff_not, not_le] at hlegal
    obtain ⟨⟨h32, hlimit⟩, h512⟩ := hlegal
    simp only [Bool.and_eq_true, Bool.or_eq_true, decide_eq_true_eq] at h
    have hread : 16 ≤ flags.toNat % 32 → (rest.getD (timeBytes flags) 0).toNat * 256 +
        (rest.getD (timeBytes flags + 1) 0).toNat ≤ 512 := by
      intro h16
      have hbytes : limitBytes flags = 2 := if_pos (by rw [h4]; exact decide_eq_true h16)
      have hroom : timeBytes flags + 2 ≤ rest.length := by
        have := congrArg List.length hp
        rw [List.length_drop, List.length_cons, hbytes] at this
        omega
      rw [hbytes, natOf_take_drop hroom] at hlimit
      omega
    omega

theorem exists_of_length_six {α : Type} {as : List α} (h : as.length = 6) : ∃ a b c d e f, as = [a, b, c, d, e, f] := by
  match as, h with
  | [a, b, c, d, e, f], _ => exact ⟨a, b, c, d, e, f, rfl⟩

/-- Every row but SUBMIT's refuses a body of its length with a bad argument, and changes nothing. -/
theorem rowMeaning_of_badArgument {c : Byte} {args : List Byte} (hs : c ≠ 0x20#8)
    (hlen : lengthOk (c :: args) = true) (hbad : badArgument (c :: args) = true) (s : State) :
    rowMeaning (requestRow (c :: args)) (c :: args) s = (.refuse .badArgument, s) := by
  have hmem : (c, args.length + 1) ∈ bodyLengths := by
    simpa [lengthOk, hs] using hlen
  simp only [bodyLengths, List.mem_cons, Prod.mk.injEq, List.not_mem_nil, or_false, Nat.add_eq_right, Nat.reduceEqDiff] at hmem
  rcases hmem with ⟨rfl, -⟩ | ⟨rfl, hl⟩ | ⟨rfl, hl⟩ | ⟨rfl, -⟩ | ⟨rfl, hl⟩ | ⟨rfl, hl⟩ | ⟨rfl, hl⟩ | ⟨rfl, hl⟩ | ⟨rfl, hl⟩ |
    ⟨rfl, hl⟩ | ⟨rfl, hl⟩ | ⟨rfl, hl⟩ | ⟨rfl, hl⟩ | ⟨rfl, hl⟩ | ⟨rfl, hl⟩ | ⟨rfl, hl⟩
  · exact absurd hbad Bool.false_ne_true
  · obtain ⟨flags, rfl⟩ := List.length_eq_one_iff.1 hl
    change runPartStatus _ s = _
    rw [runPartStatus, partStatusArgs_of_bad hbad]
  · obtain ⟨m1, m0, q1, q0, rfl⟩ := List.length_eq_four.1 hl
    change runPartConfig _ s = _
    rw [runPartConfig, partConfigArgs_of_bad hbad]
  · exact absurd hbad Bool.false_ne_true
  · change runLaneConfig _ s = _
    rw [runLaneConfig, laneConfigArgs_of_bad hl hbad]
  · obtain ⟨lane, target, rfl⟩ := List.length_eq_two.1 hl
    change rowMeaning (if _ then .laneModePass else if _ then .laneModeHalt else .laneModeHold) _ s = _
    split_ifs
    · rw [rowMeaning, runLaneModePass, laneModeArgs_of_bad hbad]
    · rw [rowMeaning, runLaneModeHalt, laneModeArgs_of_bad hbad]
    · rw [rowMeaning, runLaneModeHold, laneModeArgs_of_bad hbad]
  · obtain ⟨lane, flags, rfl⟩ := List.length_eq_two.1 hl
    change runLaneStatus _ s = _
    rw [runLaneStatus, laneStatusArgs_of_bad hbad]
  · obtain ⟨lane, rfl⟩ := List.length_eq_one_iff.1 hl
    change runLaneFlush _ s = _
    rw [runLaneFlush, laneArgs_of_bad (.inl rfl) hbad]
  · obtain ⟨lane, action, bit, rfl⟩ := List.length_eq_three.1 hl
    change rowMeaning (if _ then .laneReseqMark else .laneReseqForce) _ s = _
    split_ifs
    · rw [rowMeaning, runLaneReseqMark, laneReseqArgs_of_bad hbad]
    · rw [rowMeaning, runLaneReseqForce, laneReseqArgs_of_bad hbad]
  · obtain ⟨lane, rfl⟩ := List.length_eq_one_iff.1 hl
    change runDropReset _ s = _
    rw [runDropReset, laneArgs_of_bad (.inr (.inl rfl)) hbad]
  · obtain ⟨hi, lo, rfl⟩ := List.length_eq_two.1 hl
    change runCancel _ s = _
    rw [runCancel, ticketArgs_of_bad (.inl rfl) hbad]
  · obtain ⟨hi, lo, rfl⟩ := List.length_eq_two.1 hl
    change runQuery _ s = _
    rw [runQuery, ticketArgs_of_bad (.inr (.inl rfl)) hbad]
  · obtain ⟨t1, t0, o1, o0, c1, c0, rfl⟩ := exists_of_length_six hl
    change runReplyRead _ s = _
    rw [runReplyRead, replyReadArgs_of_bad hbad]
  · obtain ⟨filter, maximum, rfl⟩ := List.length_eq_two.1 hl
    change runCollect _ s = _
    rw [runCollect, collectArgs_of_bad hbad]
  · obtain ⟨hi, lo, rfl⟩ := List.length_eq_two.1 hl
    change runRetire _ s = _
    rw [runRetire, ticketArgs_of_bad (.inr (.inr rfl)) hbad]
  · obtain ⟨lane, rfl⟩ := List.length_eq_one_iff.1 hl
    change runReportTake _ s = _
    rw [runReportTake, laneArgs_of_bad (.inr (.inr rfl)) hbad]

/-- Settles O23: SUBMIT by its own reader, every other code by its row. -/
theorem everyBadArgumentIsRefused : Obligations.EveryBadArgumentIsRefused := by
  intro s tag body rest h hcode hlen hbad
  match body with
  | [] => exact absurd hcode (by decide)
  | code :: args =>
    by_cases hs : code = 0x20#8
    · subst hs
      have hrun : runSubmit (0x20 :: args) (s.taken rest) = (refuseSubmit .badArgument, s.taken rest) := by
        rw [runSubmit, submitArgs_of_bad hlen hbad]
      exact exec_submit_of_run h hrun
    · rw [requestCommand_eq, exec_rowCommand,
        takeRequest_of_run h rfl (rowMeaning_of_badArgument hs hlen hbad (s.taken rest)), refusal, List.headD_cons, if_neg hs]
      rfl

end Sys2Proof.Proofs.Arguments
end

section
/-! PROOFS. The link queues and the holdings: what can write them, and that every step keeps their bounds. -/

namespace Sys2Proof.Proofs.Stores

-- One theorem at a time: each elaboration thread takes 1 GiB of the check's memory limit.
set_option Elab.async false

open Sys2Proof Sys2Proof.Machine Sys2Proof.Proofs.Messages

/-! ### Link queues and holdings, and the operations that leave all of them -/

/-- What R139 and R165 speak of: the intake queue, the response queue and every lane's holding. -/
def stores (s : State) : List Request × List Response × (LaneId → List Report) :=
  (s.link.intake, s.link.responses, fun l => (s.lane l).holding)

/-- R139 and R165 together. -/
def Bounded (s : State) : Prop := QueuesBounded s ∧ HoldingsBounded s

/-- A state with the same queues and holdings is as bounded. -/
theorem bounded_of_stores {s t : State} (hs : stores t = stores s) (h : Bounded s) : Bounded t := by
  obtain ⟨hi, hs⟩ := Prod.mk.inj hs
  obtain ⟨hr, hh⟩ := Prod.mk.inj hs
  obtain ⟨⟨hint, hres⟩, hhold⟩ := h
  exact ⟨⟨hi ▸ hint, hr ▸ hres⟩, fun l => (congrFun hh l).symm ▸ hhold l⟩

theorem stores_of_holdings {s t : State} (hk : t.link = s.link) (hh : ∀ l, (t.lane l).holding = (s.lane l).holding) :
    stores t = stores s := by
  unfold stores; rw [hk, funext hh]

theorem stores_of_blocks {s t : State} (hl : t.lanes = s.lanes) (hk : t.link = s.link) : stores t = stores s :=
  stores_of_holdings hk fun _ => by unfold State.lane; rw [hl]

section
variable (s : State) (l : LaneId)

/-! #### Updates of one block -/

@[simp] theorem stores_onPool (f : BlockPool → BlockPool) : stores (s.onPool f) = stores s := rfl
@[simp] theorem stores_onTable (f : MessageTable → MessageTable) : stores (s.onTable f) = stores s := rfl
@[simp] theorem stores_onNotices (f : NoticeUnit → NoticeUnit) : stores (s.onNotices f) = stores s := rfl
@[simp] theorem stores_onRecord (t : Ticket) (f : Record → Record) : stores (s.onRecord t f) = stores s := rfl
@[simp] theorem stores_raise (e : Event) : stores (s.raise e) = stores s := rfl
@[simp] theorem stores_raiseLane (k : NoticeKind) (t : Ticket) (d : Detail) : stores (s.raiseLane l k t d) = stores s := rfl
@[simp] theorem stores_raisePart (k : NoticeKind) (d : Detail) : stores (s.raisePart k d) = stores s := rfl
@[simp] theorem stores_dropFree (n : Nat) : stores (s.dropFree n) = stores s := rfl
@[simp] theorem stores_returnBlocks (bs : List BlockNo) : stores (s.returnBlocks bs) = stores s := rfl
@[simp] theorem stores_reserve (t : Ticket) (n : Nat) : stores (s.reserve t n) = stores s := rfl
@[simp] theorem stores_removeWaiting : stores (s.removeWaiting l) = stores s := rfl
@[simp] theorem stores_appendWaiting (e : WaitEntry) : stores (s.appendWaiting e) = stores s := rfl
@[simp] theorem stores_setNeed (n : Nat) : stores (s.setNeed l n) = stores s := rfl

/-- An update of a lane that leaves its holding. -/
theorem stores_onLane {f : Lane → Lane} (hh : (f (s.lane l)).holding = (s.lane l).holding) :
    stores (s.onLane l f) = stores s := by
  refine stores_of_holdings rfl fun m => ?_
  by_cases h : l = m
  · subst h; rw [lane_onLane_self, hh]
  · rw [lane_onLane_of_ne s f h]

@[simp] theorem stores_onCounters (f : LaneCounters → LaneCounters) : stores (s.onCounters l f) = stores s :=
  stores_onLane s l rfl
@[simp] theorem stores_onPort (f : DropPort → DropPort) : stores (s.onPort l f) = stores s := stores_onLane s l rfl
@[simp] theorem stores_setPhase (p : Phase) : stores (s.setPhase l p) = stores s := stores_onLane s l rfl
@[simp] theorem stores_setMode (m : Mode) : stores (s.setMode l m) = stores s := stores_onLane s l rfl
@[simp] theorem stores_insertNew (t : Ticket) (u : Bool) : stores (s.insertNew l t u) = stores s := stores_onLane s l rfl
@[simp] theorem stores_requeue (t : Ticket) (u : Bool) : stores (s.requeue l t u) = stores s := stores_onLane s l rfl
@[simp] theorem stores_markResync (u : Bool) : stores (s.markResync l u) = stores s := stores_onLane s l rfl
@[simp] theorem stores_countDamaged : stores (s.countDamaged l) = stores s := stores_onLane s l rfl
@[simp] theorem stores_countStray : stores (s.countStray l) = stores s := stores_onLane s l rfl
@[simp] theorem stores_startAck : stores (s.startAck l) = stores s := stores_onLane s l rfl
@[simp] theorem stores_cutAttempt : stores (s.cutAttempt l) = stores s := stores_onLane s l rfl
@[simp] theorem stores_hunt : stores (s.hunt l) = stores s := stores_onLane s l rfl

/-! #### The grant scan and head selection -/

@[simp] theorem stores_activate (t : Ticket) (n : Nat) : stores (s.activate l t n) = stores s :=
  stores_onLane _ l rfl

@[simp] theorem stores_grant (e : WaitEntry) : stores (s.grant e) = stores s := by
  unfold State.grant; split <;> simp

@[simp] theorem stores_scanFrom (es : List WaitEntry) : stores (s.scanFrom es) = stores s := by
  induction es generalizing s with
  | nil => rfl
  | cons e es ih =>
    rcases scanFrom_cons_cases s e es with ⟨-, h⟩ | ⟨-, -, h⟩ | ⟨-, -, h⟩
    · rw [h, ih]
    · rw [h, ih, stores_grant]
    · rw [h]

@[simp] theorem stores_grantScan : stores s.grantScan = stores s := stores_scanFrom s _

@[simp] theorem stores_spaceStep (r : Record) : stores (s.spaceStep l r) = stores s := by
  unfold State.spaceStep; dsimp only; split_ifs <;> simp

@[simp] theorem stores_judgeHead : stores (s.judgeHead l) = stores s := by
  unfold State.judgeHead; split <;> [skip; split_ifs] <;> simp

@[simp] theorem stores_updateNeed : stores (s.updateNeed l) = stores s := by
  unfold State.updateNeed; split <;> [skip; split_ifs] <;> simp

@[simp] theorem stores_headChanged : stores (s.headChanged l) = stores s := by
  unfold State.headChanged; split <;> simp

@[simp] theorem stores_stopWaiting : stores (s.stopWaiting l) = stores s := by
  unfold State.stopWaiting; split <;> simp

@[simp] theorem stores_leaveWait : stores (s.leaveWait l) = stores s := by
  unfold State.leaveWait; split_ifs <;> simp

/-! #### Outcomes of an attempt -/

@[simp] theorem stores_endRecord (t : Ticket) (st : RecordState) (c : Cause) (k : Option Byte) :
    stores (s.endRecord t st c k) = stores s := stores_of_blocks (endRecord_lanes s t st c k) (endRecord_link s t st c k)

@[simp] theorem stores_completeRecord (t : Ticket) (n : Nat) : stores (s.completeRecord t n) = stores s :=
  stores_of_blocks (completeRecord_lanes s t n) (completeRecord_link s t n)

@[simp] theorem stores_stopBusy (t : Ticket) : stores (s.stopBusy l t) = stores s := by
  have hidle : stores (s.onLane l fun x => { x with active := none, phase := .idle }) = stores s := stores_onLane s l rfl
  rcases stopBusy_cases s l t with ⟨-, h⟩ | ⟨-, h⟩ <;> simp [h, hidle]

@[simp] theorem stores_failRecord (t : Ticket) (c : Cause) (k : Option Byte) (u : Bool) :
    stores (s.failRecord l t c k u) = stores s := by
  unfold State.failRecord; dsimp only; split_ifs <;> simp

@[simp] theorem stores_cancelActive (t : Ticket) (u : Bool) : stores (s.cancelActive l t u) = stores s := by
  unfold State.cancelActive
  rw [stores_stopBusy, stores_onLane _ l rfl]
  simp

@[simp] theorem stores_takeMiss (reply : Bool) : stores (s.takeMiss l reply) = stores s := by
  have hready (u : State) (k : FrameKind) : stores (u.onLane l fun x => { x with phase := .waitSlot, ready := k }) = stores u :=
    stores_onLane u l rfl
  unfold State.takeMiss
  split <;> [rfl; skip]
  split <;> [rfl; skip]
  dsimp only
  split_ifs <;> simp [hready]

@[simp] theorem stores_takeBusy (t : Ticket) (r : Record) : stores (s.takeBusy l t r) = stores s := by
  have hcounted (u : State) : stores (u.onLane l fun x => { x with busyCount := x.busyCount + 1 }) = stores u :=
    stores_onLane u l rfl
  unfold State.takeBusy
  dsimp only
  split_ifs
  · simp [hcounted]
  · simp [hcounted]
  · rw [stores_onLane _ l rfl]; simp [hcounted]

@[simp] theorem stores_takeReject (t : Ticket) (code : Byte) : stores (s.takeReject l t code) = stores s := by
  unfold State.takeReject; simp

@[simp] theorem stores_takeOversize (t : Ticket) (r : Record) : stores (s.takeOversize l t r) = stores s := by
  unfold State.takeOversize
  rw [stores_failRecord, stores_onLane _ l rfl]

@[simp] theorem stores_completeActive (t : Ticket) (r : Record) (n : Nat) : stores (s.completeActive l t r n) = stores s := by
  have hseq (u : State) : stores (u.onLane l fun x => { x with seq := !x.seq, resync := false }) = stores u :=
    stores_onLane u l rfl
  have hquota (u : State) : stores (u.onLane l fun x => { x with quotaLeft := quotaAfterDone x }) = stores u :=
    stores_onLane u l rfl
  unfold State.completeActive
  dsimp only
  split <;> simp [hseq, hquota]

/-! #### Answers, reports and the halt-abort -/

@[simp] theorem stores_storeReply (f : RxFrame) (bytes : List Byte) : stores (s.storeReply l f bytes) = stores s :=
  stores_of_blocks (storeReply_lanes s l f bytes) (storeReply_link s l f bytes)

@[simp] theorem stores_judgeAnswer (control : Byte) (payload : List Byte) :
    stores (s.judgeAnswer l control payload) = stores s := by
  unfold State.judgeAnswer
  split_ifs <;> [skip; simp]
  split <;> [rfl; skip]
  split <;> [rfl; skip]
  split <;> (try split_ifs) <;> simp

@[simp] theorem stores_damagedFrame (expected reply : Bool) : stores (s.damagedFrame l expected reply) = stores s := by
  unfold State.damagedFrame; split_ifs <;> simp

@[simp] theorem stores_haltAbort (t : Ticket) : stores (s.haltAbort l t) = stores s := by
  unfold State.haltAbort
  split <;> [rfl; skip]
  dsimp only
  split_ifs <;> simp

/-! #### The receiver of a Drop Port -/

@[simp] theorem stores_dropStartByte : stores (s.dropStartByte l) = stores s := by
  unfold State.dropStartByte; split_ifs <;> simp

@[simp] theorem stores_dropHeader (control lenHi lenLo : Byte) : stores (s.dropHeader l control lenHi lenLo) = stores s := by
  have hack : stores (s.onLane l fun x => { x with ackTimer := none }) = stores s := stores_onLane s l rfl
  unfold State.dropHeader
  split <;> [skip; rfl]
  dsimp only
  split_ifs <;> simp [hack]

@[simp] theorem stores_cutFrame (taken : List Byte) : stores (s.cutFrame l taken) = stores s := by
  unfold State.cutFrame; split <;> (try split_ifs) <;> simp

@[simp] theorem stores_gapCut (cut : GapCut) : stores (s.gapCut l cut) = stores s := by
  unfold State.gapCut; split_ifs <;> simp

/-! #### Timers of a lane -/

@[simp] theorem stores_releaseReached : stores (s.releaseReached l) = stores s := by
  unfold State.releaseReached; split_ifs <;> simp

@[simp] theorem stores_frameSent : stores (s.frameSent l) = stores s := by
  unfold State.frameSent; split_ifs <;> simp

@[simp] theorem stores_ackExpiry : stores (s.ackExpiry l) = stores s := by
  unfold State.ackExpiry
  split_ifs
  · rw [stores_takeMiss, stores_onLane _ l rfl]
  · rfl

@[simp] theorem stores_backoffExpiry : stores (s.backoffExpiry l) = stores s := by
  unfold State.backoffExpiry
  split_ifs
  · exact stores_onLane s l rfl
  · rfl

@[simp] theorem stores_dropBreakEnd : stores (s.dropBreakEnd l) = stores s := by
  unfold State.dropBreakEnd; split_ifs <;> simp

@[simp] theorem stores_dropResetEnd : stores (s.dropResetEnd l) = stores s := by
  unfold State.dropResetEnd
  split_ifs
  · rw [stores_stopBusy, stores_onLane _ l rfl]
  · rfl

/-! #### The control link -/

@[simp] theorem stores_linkReset : stores s.linkReset = stores s := by
  unfold State.linkReset; split_ifs <;> rfl

@[simp] theorem stores_seeHrx (h : HrxSample) : stores (s.seeHrx h) = stores s := by
  unfold State.seeHrx; split_ifs <;> simp

@[simp] theorem stores_linkDamage (why : DamageReason) : stores (s.linkDamage why) = stores s := rfl

@[simp] theorem stores_controlStartByte : stores s.controlStartByte = stores s := by
  unfold State.controlStartByte; split_ifs <;> rfl

@[simp] theorem stores_controlHeader (lenHi lenLo : Byte) : stores (s.controlHeader lenHi lenLo) = stores s := by
  unfold State.controlHeader; split_ifs <;> rfl

@[simp] theorem stores_controlGap : stores s.controlGap = stores s := by
  unfold State.controlGap; split_ifs <;> simp

@[simp] theorem stores_holdQuiet : stores (s.holdQuiet l) = stores s := by
  unfold State.holdQuiet; split_ifs <;> simp

@[simp] theorem stores_quietExpiry : stores s.quietExpiry = stores s := by
  have hfold (ls : List LaneId) (u : State) : stores (ls.foldl (fun s l => s.holdQuiet l) u) = stores u := by
    induction ls generalizing u with
    | nil => rfl
    | cons m ls ih => rw [List.foldl_cons, ih, stores_holdQuiet]
  unfold State.quietExpiry
  split_ifs
  · rw [stores_grantScan, hfold]; rfl
  · rfl

@[simp] theorem stores_noticeStart : stores s.noticeStart = stores s := by
  unfold State.noticeStart; split <;> [skip; split_ifs] <;> rfl

/-! #### Requests -/

@[simp] theorem stores_enterHalt : stores (s.enterHalt l) = stores s := by
  unfold State.enterHalt; split <;> simp

@[simp] theorem stores_flushAll (q : List Ticket) : stores (s.flushAll q) = stores s := by
  unfold State.flushAll
  induction q generalizing s with
  | nil => rfl
  | cons t q ih => rw [List.foldl_cons, ih, stores_endRecord]

@[simp] theorem stores_flushLane : stores (s.flushLane l) = stores s := by
  unfold State.flushLane
  rw [stores_grantScan, stores_stopWaiting, stores_onLane _ l rfl, stores_flushAll]

@[simp] theorem stores_createRecord (a : SubmitArgs) (t : Ticket) : stores (s.createRecord a t) = stores s := by
  unfold State.createRecord; simp

@[simp] theorem stores_enqueue (a : SubmitArgs) (t : Ticket) : stores (s.enqueue a t) = stores s := by
  unfold State.enqueue; dsimp only; split_ifs <;> simp

@[simp] theorem stores_cancelQueued (r : Record) : stores (s.cancelQueued r) = stores s := by
  have hqueue (u : State) : stores (u.onLane r.lane fun x => { x with queue := x.queue.erase r.ticket }) = stores u :=
    stores_onLane u r.lane rfl
  unfold State.cancelQueued; dsimp only; split_ifs <;> simp [hqueue]

@[simp] theorem stores_markActive (r : Record) : stores (s.markActive r) = stores s := by
  unfold State.markActive; dsimp only; split <;> simp

@[simp] theorem stores_retireRecord (r : Record) : stores (s.retireRecord r) = stores s := by
  unfold State.retireRecord; dsimp only; split_ifs <;> simp

end

/-! ### The meanings of the requests that leave both -/

section
variable (body : List Byte) (s : State)

theorem stores_runIdentify : stores (runIdentify body s).2 = stores s := by
  unfold runIdentify; split <;> rfl

theorem stores_runPartStatus : stores (runPartStatus body s).2 = stores s := by
  unfold runPartStatus; split <;> [rfl; (dsimp only; split_ifs <;> rfl)]

theorem stores_runPartConfig : stores (runPartConfig body s).2 = stores s := by
  unfold runPartConfig; split <;> rfl

theorem stores_runRestart : stores (runRestart body s).2 = stores s := by
  unfold runRestart; split <;> rfl

theorem stores_runLaneModeHold : stores (runLaneModeHold body s).2 = stores s := by
  unfold runLaneModeHold; split <;> [rfl; split] <;> simp

theorem stores_runLaneModePass : stores (runLaneModePass body s).2 = stores s := by
  have hpass (l : LaneId) : stores (s.onLane l fun x => { x with mode := .pass, quotaLeft := x.config.quota }) = stores s :=
    stores_onLane s l rfl
  unfold runLaneModePass
  split <;> [rfl; split] <;> [(dsimp only; split_ifs); skip; skip] <;> simp [hpass]

theorem stores_runLaneModeHalt : stores (runLaneModeHalt body s).2 = stores s := by
  unfold runLaneModeHalt; split <;> [rfl; split] <;> simp

theorem stores_runLaneStatus : stores (runLaneStatus body s).2 = stores s := by
  unfold runLaneStatus; split <;> [rfl; (dsimp only; split_ifs)] <;> simp

theorem stores_runLaneFlush : stores (runLaneFlush body s).2 = stores s := by
  unfold runLaneFlush; split <;> [rfl; (dsimp only; split_ifs)] <;> simp

theorem stores_runLaneReseqForce : stores (runLaneReseqForce body s).2 = stores s := by
  unfold runLaneReseqForce; split <;> [rfl; split_ifs] <;> [rfl; exact stores_onLane s _ rfl]

theorem stores_runLaneReseqMark : stores (runLaneReseqMark body s).2 = stores s := by
  unfold runLaneReseqMark; split <;> [rfl; split_ifs] <;> [rfl; exact stores_onLane s _ rfl]

theorem stores_runDropReset : stores (runDropReset body s).2 = stores s := by
  unfold runDropReset; split <;> [rfl; split_ifs] <;> [rfl; exact stores_onLane s _ rfl]

theorem stores_runSubmit : stores (runSubmit body s).2 = stores s := by
  unfold runSubmit; split <;> [rfl; split_ifs] <;> [rfl; rfl; rfl; split] <;> simp

theorem stores_runCancel : stores (runCancel body s).2 = stores s := by
  unfold runCancel; split <;> [rfl; split] <;> [rfl; split] <;> simp

theorem stores_runQuery : stores (runQuery body s).2 = stores s := by
  unfold runQuery; split <;> [rfl; split] <;> rfl

theorem stores_runReplyRead : stores (runReplyRead body s).2 = stores s := by
  unfold runReplyRead; split <;> [rfl; split] <;> [rfl; split_ifs] <;> rfl

theorem stores_runCollect : stores (runCollect body s).2 = stores s := by
  unfold runCollect; split <;> rfl

theorem stores_runRetire : stores (runRetire body s).2 = stores s := by
  unfold runRetire; split <;> [rfl; split] <;> [rfl; split_ifs] <;> simp

end

theorem stores_creditEarned (s : State) (l : LaneId) : stores (s.creditEarned l) = stores s := by
  unfold State.creditEarned
  split_ifs
  · exact stores_onLane s l rfl
  · rfl

theorem stores_startFrame (s : State) (l : LaneId) : stores (s.startFrame l) = stores s := by
  unfold State.startFrame
  split_ifs <;> [split; skip]
  · rfl
  · exact stores_onLane (s.onRecord _ _) l rfl
  · rfl

theorem stores_runLaneConfig (body : List Byte) (s : State) : stores (runLaneConfig body s).2 = stores s := by
  unfold runLaneConfig
  split <;> [rfl; split_ifs] <;> [rfl; rfl; exact stores_onLane s _ rfl]

theorem stores_settleLane (s : State) (l : LaneId) : stores (s.settleLane l) = stores s := by
  simp [State.settleLane, stores_creditEarned]

theorem stores_advance (s : State) (p : TickSample) : stores (s.advance p) = stores s := by
  refine congrArg (fun hs => (s.link.intake, s.link.responses, hs)) (funext fun l => ?_)
  rw [lane_advance]
  rfl

/-! ### The operations that write one of them -/

/-- Removing from a queue or a holding keeps the bounds. -/
theorem bounded_of_shorter {s t : State} (h : Bounded s) (hi : t.link.intake.length ≤ s.link.intake.length)
    (hr : t.link.responses.length ≤ s.link.responses.length)
    (hh : ∀ l, (t.lane l).holding.length ≤ (s.lane l).holding.length) : Bounded t := by
  obtain ⟨⟨hint, hres⟩, hhold⟩ := h
  exact ⟨⟨hi.trans hint, hr.trans hres⟩, fun l => (hh l).trans (hhold l)⟩

/-- Either reset empties every queue and every holding (R19, R146, R180). -/
theorem bounded_afterReset (c : ResetCause) (straps : BitVec 2) (hrxLow : Bool) (pending : List Instr) :
    Bounded (State.afterReset c straps hrxLow pending) := by
  refine ⟨⟨Nat.zero_le _, Nat.zero_le _⟩, fun l => ?_⟩
  rw [Resets.lane_afterReset]
  exact Nat.zero_le _

section
variable {s : State} (h : Bounded s)
include h

/-- A report joins a holding below two reports only (R140, R141). -/
theorem bounded_arriveReport (l : LaneId) (bytes : List Byte) : Bounded (s.arriveReport l bytes) := by
  obtain ⟨hqueues, hhold⟩ := h
  unfold State.arriveReport
  split_ifs with hroom
  · refine ⟨hqueues, fun m => ?_⟩
    rw [lane_raiseLane]
    by_cases hm : l = m
    · subst hm
      rw [lane_onLane_self, List.length_append]
      exact hroom
    · rw [lane_onLane_of_ne _ _ hm]
      exact hhold m
  · exact bounded_of_stores (by simp) ⟨hqueues, hhold⟩

theorem bounded_dropFrameEnd (l : LaneId) (chars : List Byte) : Bounded (s.dropFrameEnd l chars) := by
  unfold State.dropFrameEnd
  split <;> [skip; exact h]
  rename_i f _
  have heard : Bounded ((s.storeReply l f (chars.take f.length)).hunt l) := bounded_of_stores (by simp) h
  dsimp only
  split_ifs <;> [split; skip; exact h]
  · exact bounded_of_stores (stores_judgeAnswer _ _ _ _) heard
  · exact bounded_of_stores (stores_countStray _ _) heard
  · exact bounded_arriveReport heard l _
  · exact bounded_of_stores (stores_damagedFrame _ _ _ _) heard

/-- A good request joins an intake queue below four entries only (R165, R166). -/
theorem bounded_goodRequest (q : Request) : Bounded (s.goodRequest q) := by
  unfold State.goodRequest
  dsimp only
  split_ifs with hroom
  · obtain ⟨⟨-, hres⟩, hhold⟩ := h
    refine ⟨⟨?_, hres⟩, hhold⟩
    rw [onLink_link, List.length_append]
    exact hroom
  · exact bounded_of_stores rfl h

theorem bounded_controlFrameEnd (chars : List Byte) : Bounded (s.controlFrameEnd chars) := by
  have damaged (why : DamageReason) : Bounded (s.linkDamage why) := bounded_of_stores (stores_linkDamage s why) h
  unfold State.controlFrameEnd
  split <;> [skip; exact h]
  dsimp only
  split_ifs <;> [split; exact damaged _; exact h]
  · split_ifs
    · exact bounded_goodRequest h _
    · exact damaged _
  · exact h

theorem bounded_linkBreak : Bounded s.linkBreak := by
  rcases linkBreak_cases s with ⟨-, e⟩ | ⟨-, -, e⟩ | ⟨-, -, e⟩ <;> rw [e]
  · exact h
  · exact bounded_afterReset _ _ _ _
  · exact bounded_of_shorter h (Nat.zero_le _) (Nat.zero_le _) fun _ => le_rfl

theorem bounded_responseStart : Bounded s.responseStart := by
  unfold State.responseStart
  split <;> [exact h; skip]
  rename_i r rest hr
  split_ifs
  · exact bounded_of_shorter h le_rfl (by rw [hr]; exact Nat.le_succ _) fun _ => le_rfl
  · exact h

theorem bounded_controlFrameSent : Bounded s.controlFrameSent := by
  rcases controlFrameSent_cases s with ⟨-, e⟩ | ⟨-, -, e⟩ | ⟨-, e⟩ <;> rw [e]
  · exact h
  · exact bounded_afterReset _ _ _ _
  · exact bounded_of_stores rfl h

theorem bounded_runReportTake (body : List Byte) : Bounded (runReportTake body s).2 := by
  unfold runReportTake
  split <;> [exact h; split] <;> [exact h; skip]
  rename_i l _ _ p rest hp
  refine bounded_of_shorter h le_rfl le_rfl fun m => ?_
  change ((s.onLane l fun x => { x with holding := rest }).lane m).holding.length ≤ (s.lane m).holding.length
  by_cases hm : l = m
  · subst hm
    rw [lane_onLane_self, hp]
    exact Nat.le_succ _
  · rw [lane_onLane_of_ne _ _ hm]

end

theorem runReportTake_responses (body : List Byte) (s : State) :
    (runReportTake body s).2.link.responses = s.link.responses := by
  unfold runReportTake
  split <;> [rfl; split] <;> rfl

/-! ### Every step (R139, R165) -/

theorem bounded_foldl {g : State → LaneId → State} (hg : ∀ u l, Bounded u → Bounded (g u l)) (ls : List LaneId) {s : State}
    (h : Bounded s) : Bounded (ls.foldl g s) := by
  induction ls generalizing s with
  | nil => exact h
  | cons l ls ih => exact ih (hg s l h)

/-- The timed steps that an advance takes first: only a link break may write a queue. -/
theorem bounded_settle {s : State} (h : Bounded s) (p : TickSample) : Bounded (s.settle p) := by
  unfold State.settle
  dsimp only
  refine bounded_foldl (fun u l hu => bounded_of_stores (stores_startFrame u l) hu) _ ?_
  refine bounded_foldl (fun u l hu => bounded_of_stores (stores_gapCut u l _) hu) _ ?_
  refine bounded_of_stores (stores_seeHrx _ _) (bounded_linkBreak ?_)
  refine bounded_of_stores ((stores_controlGap _).trans (stores_quietExpiry _)) ?_
  exact bounded_foldl (fun u l hu => bounded_of_stores (stores_settleLane u l) hu) _ h

/-- A request is taken below four responses only, and its meaning appends none: there is room for its own (R167). -/
theorem bounded_takeRequest {s : State} (h : Bounded s) {row : RequestRow} {run : List Byte → State → Reply × State}
    (hrun : ∀ body u, Bounded u → Bounded (run body u).2 ∧ (run body u).2.link.responses = u.link.responses) :
    Bounded (s.takeRequest row run) := by
  rcases takeRequest_cases s row run with e | ⟨q, rest, ⟨hq, hroom, -⟩, -, e⟩ <;> rw [e]
  · exact h
  · have htaken : Bounded (s.taken rest) := bounded_of_shorter h (by rw [hq]; exact Nat.le_succ _) le_rfl fun _ => le_rfl
    obtain ⟨⟨⟨hint, -⟩, hhold⟩, hres⟩ := hrun q.body _ htaken
    refine ⟨⟨hint, ?_⟩, hhold⟩
    rw [respond_eq_appends]
    change ((run q.body (s.taken rest)).2.link.responses ++ _).length ≤ 4
    rw [hres, List.length_append]
    exact hroom

/-- Every command completes in a bounded state: one case for each row. -/
theorem bounded_exec {s : State} (h : Bounded s) (i : Instr) : ∃ t, exec i s = .next t ∧ Bounded t := by
  have request {row : RequestRow} {run : List Byte → State → Reply × State}
      (hrun : ∀ body u, stores (run body u).2 = stores u) : Bounded (s.takeRequest row run) :=
    bounded_takeRequest h fun body u hu =>
      ⟨bounded_of_stores (hrun body u) hu, (Prod.mk.inj (Prod.mk.inj (hrun body u)).2).1⟩
  have same {t : State} (hs : stores t = stores s) : Bounded t := bounded_of_stores hs h
  cases i with
  | identify => exact ⟨_, rfl, request stores_runIdentify⟩
  | partStatus => exact ⟨_, rfl, request stores_runPartStatus⟩
  | partConfig => exact ⟨_, rfl, request stores_runPartConfig⟩
  | restart => exact ⟨_, rfl, request stores_runRestart⟩
  | laneConfig => exact ⟨_, rfl, request stores_runLaneConfig⟩
  | laneModeHold => exact ⟨_, rfl, request stores_runLaneModeHold⟩
  | laneModePass => exact ⟨_, rfl, request stores_runLaneModePass⟩
  | laneModeHalt => exact ⟨_, rfl, request stores_runLaneModeHalt⟩
  | laneStatus => exact ⟨_, rfl, request stores_runLaneStatus⟩
  | laneFlush => exact ⟨_, rfl, request stores_runLaneFlush⟩
  | laneReseqForce => exact ⟨_, rfl, request stores_runLaneReseqForce⟩
  | laneReseqMark => exact ⟨_, rfl, request stores_runLaneReseqMark⟩
  | dropReset => exact ⟨_, rfl, request stores_runDropReset⟩
  | submit => exact ⟨_, rfl, request stores_runSubmit⟩
  | cancel => exact ⟨_, rfl, request stores_runCancel⟩
  | query => exact ⟨_, rfl, request stores_runQuery⟩
  | replyRead => exact ⟨_, rfl, request stores_runReplyRead⟩
  | collect => exact ⟨_, rfl, request stores_runCollect⟩
  | retire => exact ⟨_, rfl, request stores_runRetire⟩
  | reportTake => exact ⟨_, rfl, bounded_takeRequest h fun body u hu =>
      ⟨bounded_runReportTake hu body, runReportTake_responses body u⟩⟩
  | unknownRequest => exact ⟨_, rfl, request fun _ _ => rfl⟩
  | controlHeaderTaken lenHi lenLo => exact ⟨_, rfl, same (stores_controlHeader s lenHi lenLo)⟩
  | controlFrameEnd chars => exact ⟨_, rfl, bounded_controlFrameEnd h chars⟩
  | controlFrameGap => exact ⟨_, rfl, same (stores_controlGap s)⟩
  | linkBreak => exact ⟨_, rfl, bounded_linkBreak h⟩
  | linkReset => exact ⟨_, rfl, same (stores_linkReset s)⟩
  | hostQuietExpiry => exact ⟨_, rfl, same (stores_quietExpiry s)⟩
  | responseStart => exact ⟨_, rfl, bounded_responseStart h⟩
  | noticeStart => exact ⟨_, rfl, same (stores_noticeStart s)⟩
  | controlFrameSent => exact ⟨_, rfl, bounded_controlFrameSent h⟩
  | restartReset pins =>
    refine ⟨_, rfl, ?_⟩
    split_ifs
    · exact bounded_afterReset _ _ _ _
    · exact h
  | pinReset low pins =>
    refine ⟨_, rfl, ?_⟩
    unfold State.pinReset
    split_ifs
    · exact bounded_of_stores rfl (bounded_afterReset .resetPin s.link.speed false s.pending)
    · exact bounded_afterReset _ _ _ _
  | tick pins =>
    refine ⟨_, rfl, ?_⟩
    split_ifs
    · exact h
    · exact bounded_of_stores (stores_advance _ pins) (bounded_settle h pins)
  | slotCreditEarned lane => exact ⟨_, rfl, same (stores_creditEarned s lane)⟩
  | releaseTimeReached lane => exact ⟨_, rfl, same (stores_releaseReached s lane)⟩
  | transmissionStart lane => exact ⟨_, rfl, same (stores_startFrame s lane)⟩
  | dropFrameSent lane => exact ⟨_, rfl, same (stores_frameSent s lane)⟩
  | dropHeaderTaken lane control lenHi lenLo => exact ⟨_, rfl, same (stores_dropHeader s lane control lenHi lenLo)⟩
  | dropGapCut lane cut => exact ⟨_, rfl, same (stores_gapCut s lane cut)⟩
  | dropFrameEnd lane chars => exact ⟨_, rfl, bounded_dropFrameEnd h lane chars⟩
  | ackTimeout lane => exact ⟨_, rfl, same (stores_ackExpiry s lane)⟩
  | backoffExpiry lane => exact ⟨_, rfl, same (stores_backoffExpiry s lane)⟩
  | dropResetBreakEnd lane => exact ⟨_, rfl, same (stores_dropBreakEnd s lane)⟩
  | dropResetEnd lane => exact ⟨_, rfl, same (stores_dropResetEnd s lane)⟩
  | dropStartByte lane => exact ⟨_, rfl, same (stores_dropStartByte s lane)⟩
  | controlStartByte => exact ⟨_, rfl, same (stores_controlStartByte s)⟩
  | dropFramingFault lane taken => exact ⟨_, rfl, same (stores_cutFrame s lane taken)⟩

/-- Settles O57: an idle step leaves the state, and every command completes in a bounded one. -/
theorem everyStepKeepsTheQueueBounds : Obligations.EveryStepKeepsTheQueueBounds := by
  intro s t h hstep
  unfold step at hstep
  split at hstep
  · exact Host.Outcome.next.inj hstep ▸ h
  · rename_i c rest _
    have h' : Bounded { s with pending := rest } := h
    obtain ⟨u, hu, hlaw⟩ := bounded_exec h' c
    obtain rfl : u = t := Host.Outcome.next.inj (hu.symm.trans hstep)
    exact hlaw

end Sys2Proof.Proofs.Stores
end

section
/-! PROOFS. The step of the machine, and the answer that completes a message. -/

namespace Sys2Proof.Proofs.Completion

-- One theorem at a time: each elaboration thread takes 1 GiB of the check's memory limit.
set_option Elab.async false

open Sys2Proof Sys2Proof.Machine

/-- Settles O1: the two branches of the step. -/
theorem stepTakesTheFrontCommand : Obligations.StepTakesTheFrontCommand := by
  intro s
  refine ⟨fun hnone => ?_, fun c rest hfront => ?_⟩
  · unfold step
    rw [hnone]
  · unfold step
    rw [hfront]

/-! ### Two records of one ticket

The claim about the completing answer does not ask that tickets are unique (R21). Of two records that share the active ticket the
first one is the message, and the second one is rewritten with it; the second one wants no reply, so nothing has been stored in it,
while the claim gives it the reply bytes. -/

/-- An active record of ticket 7 with a reply of up to 32 bytes. -/
def answeredRecord : Record :=
  { newRecord ⟨0, false, false, true, none, none, []⟩ 7 32 [] with state := .active, replyChain := [0] }

/-- A record with the same ticket that wants no reply. -/
def silentRecord : Record := newRecord ⟨0, false, false, false, none, none, []⟩ 7 32 []

/-- An expected REPLY of one byte with sequence bit 0. -/
def replyFrame : RxFrame := ⟨7, 1, 4, 0, .expected, false, 0⟩

/-- Lane 0 in HOLD takes the reply to its active message 7. -/
def twoOfOneTicket : State :=
  { State.reset with
    table := ⟨[answeredRecord, silentRecord], 8, []⟩
    lanes := State.reset.lanes.set 0
      { Lane.reset with phase := .awaitAnswer, active := some 7, port := ⟨.idle, .frame replyFrame, none, none⟩ } }

/-- The reply bytes of every record after a command. -/
def repliesAfter : Host.Outcome State Fault Refusal → List (List Byte)
  | .next s => s.table.records.map Record.reply
  | _ => []

/-- Refutes O54: after the reply AAh to `twoOfOneTicket` the second record has no reply bytes in the model, and AAh in the claim. -/
theorem not_completingAnswerEndsTheMessage : ¬ Obligations.CompletingAnswerEndsTheMessage := by
  intro h
  have hmode : (twoOfOneTicket.lane 0).mode ≠ .pass := by decide +kernel
  obtain ⟨-, hrests, -⟩ := h twoOfOneTicket 0 7 answeredRecord replyFrame [0xAA] (by decide +kernel) (by decide +kernel)
    (by decide +kernel) (by decide +kernel) (by decide +kernel) (by decide +kernel) (by decide +kernel) (by decide +kernel)
    (by decide +kernel)
  have hreplies := congrArg repliesAfter (hrests (by rw [if_neg hmode]) hmode)
  revert hreplies
  decide +kernel

end Sys2Proof.Proofs.Completion
end

section
/-! PROOFS. The laws of the part, as they stand within a step: what may be open meanwhile, and the single changes that lead from
one such state to another. -/

namespace Sys2Proof.Proofs.OpenLaws

-- One theorem at a time: each elaboration thread takes 1 GiB of the check's memory limit.
set_option Elab.async false

open Sys2Proof Sys2Proof.Machine Sys2Proof.Proofs.Messages Sys2Proof.Proofs.LaneQueues Sys2Proof.Proofs.LaneModes
  Sys2Proof.Proofs.Blocks Sys2Proof.Proofs.HeadSelection

/-! ### The laws of one lane -/

/-- How a lane's mode, phase, active ticket, timers and Drop Port stand to each other: the clauses of `Lane.phaseLawful` that do
not speak of the queue (R74, R79, R113, R117, R123, R134). -/
structure PortLawful (x : Lane) : Prop where
  active : x.active.isSome = x.phase.carries
  halt : x.mode = .halt → x.active = none
  waits : x.phase = .waitTime ∨ x.phase = .waitSpace → x.mode = .pass
  ack : x.ackTimer.isSome = true → x.phase = .awaitAnswer
  backoff : x.backoffTimer.isSome = (x.phase == .backoff)
  sending : x.port.tx.isSending = (x.phase == .sending)
  frame : x.port.rx.frameLawful = true
  expected : x.port.rx.isExpected = true → x.phase = .awaitAnswer ∧ x.ackTimer = none
  awaits : x.phase = .awaitAnswer → x.ackTimer.isSome = true ∨ x.port.rx.isExpected = true
  discarding : (x.port.rx = .discarding) ↔ x.phase = .resetting
  breaking : (x.port.tx = .breaking) ↔ x.port.breakTimer.isSome = true
  timers : (x.port.breakTimer.isSome || x.port.recoveryTimer.isSome) = (x.phase == .resetting)
  oneTimer : ¬(x.port.breakTimer.isSome = true ∧ x.port.recoveryTimer.isSome = true)

/-- What a judged head leaves of its lane: the clauses of `Lane.phaseLawful` that speak of the queue (R74, R76). -/
structure HeadLawful (x : Lane) : Prop where
  waits : x.phase = .waitTime ∨ x.phase = .waitSpace → x.queue ≠ []
  rests : x.mode = .pass → x.phase = .idle → x.queue = []

theorem phaseLawful_iff (x : Lane) : x.phaseLawful ↔ PortLawful x ∧ HeadLawful x := by
  constructor
  · rintro ⟨h1, h2, h3, h4, h5, h6, h7, h8, h9, h10, h11, h12, h13, h14⟩
    exact ⟨⟨h1, h2, fun hp => (h3 hp).1, h5, h6, h7, h8, h9, h10, h11, h12, h13, h14⟩, ⟨fun hp => (h3 hp).2, h4⟩⟩
  · rintro ⟨⟨h1, h2, h3, h5, h6, h7, h8, h9, h10, h11, h12, h13, h14⟩, ⟨h3', h4⟩⟩
    exact ⟨h1, h2, fun hp => ⟨h3 hp, h3' hp⟩, h4, h5, h6, h7, h8, h9, h10, h11, h12, h13, h14⟩

/-- No attempt runs on the lane, and no drop reset: nothing is sent, no timer runs, no answer is expected. -/
structure Still (x : Lane) : Prop where
  ack : x.ackTimer = none
  backoff : x.backoffTimer = none
  idle : x.port.tx = .idle
  frame : x.port.rx.frameLawful = true
  expected : x.port.rx.isExpected = false
  discarding : x.port.rx ≠ .discarding
  breaks : x.port.breakTimer = none
  recovers : x.port.recoveryTimer = none

/-- The phases in which a lane is still by the laws. -/
def Phase.still : Phase → Bool
  | .idle | .waitTime | .waitSpace | .waitSlot => true
  | .sending | .awaitAnswer | .backoff | .resetting => false

theorem tx_eq_idle {tx : DropTx} (h1 : tx.isSending = false) (h2 : tx ≠ .breaking) : tx = .idle := by
  cases tx with
  | idle => rfl
  | sending frame => cases h1
  | breaking => exact absurd rfl h2

/-- Outside a drop reset neither of its timers runs. -/
theorem PortLawful.noReset {x : Lane} (h : PortLawful x) (hp : x.phase ≠ .resetting) :
    x.port.breakTimer = none ∧ x.port.recoveryTimer = none ∧ x.port.tx ≠ .breaking ∧ x.port.rx ≠ .discarding := by
  have ht := h.timers
  rw [beq_eq_false_iff_ne.2 hp, Bool.or_eq_false_iff] at ht
  have hb : x.port.breakTimer = none := by simpa using ht.1
  refine ⟨hb, by simpa using ht.2, fun htx => ?_, fun hrx => hp (h.discarding.1 hrx)⟩
  rw [h.breaking, hb] at htx
  cases htx

/-- A lane between two attempts, or without one, is still. -/
theorem PortLawful.still {x : Lane} (h : PortLawful x) (hp : Phase.still x.phase = true) : Still x := by
  have hne (p : Phase) (hs : Phase.still p = false) : x.phase ≠ p := fun he => by rw [he, hs] at hp; cases hp
  obtain ⟨hb, hr, htx, hrx⟩ := h.noReset (hne .resetting rfl)
  have hack : x.ackTimer = none := by
    cases ha : x.ackTimer with
    | none => rfl
    | some n => exact absurd (h.ack (by rw [ha]; rfl)) (hne .awaitAnswer rfl)
  have hback := h.backoff
  rw [beq_eq_false_iff_ne.2 (hne .backoff rfl), Option.isSome_eq_false_iff, Option.isNone_iff_eq_none] at hback
  have hsend := h.sending
  rw [beq_eq_false_iff_ne.2 (hne .sending rfl)] at hsend
  refine ⟨hack, hback, tx_eq_idle hsend htx, h.frame, ?_, hrx, hb, hr⟩
  cases he : x.port.rx.isExpected with
  | false => rfl
  | true => exact absurd (h.expected he).1 (hne .awaitAnswer rfl)

/-- A still lane stands in each such phase with or without an active message as the phase has it. -/
theorem Still.portLawful {x : Lane} (h : Still x) (hp : Phase.still x.phase = true)
    (hactive : x.active.isSome = x.phase.carries) (hhalt : x.mode = .halt → x.active = none)
    (hwaits : x.phase = .waitTime ∨ x.phase = .waitSpace → x.mode = .pass) : PortLawful x := by
  have hne (p : Phase) (hs : Phase.still p = false) : x.phase ≠ p := fun he => by rw [he, hs] at hp; cases hp
  refine ⟨hactive, hhalt, hwaits, fun ha => ?_, ?_, ?_, h.frame, fun he => ?_, fun ha => absurd ha (hne _ rfl), ?_, ?_, ?_, ?_⟩
  · rw [h.ack] at ha; cases ha
  · rw [h.backoff, beq_eq_false_iff_ne.2 (hne .backoff rfl)]; rfl
  · rw [h.idle, beq_eq_false_iff_ne.2 (hne .sending rfl)]; rfl
  · rw [h.expected] at he; cases he
  · exact iff_of_false h.discarding (hne .resetting rfl)
  · rw [h.idle, h.breaks]; simp
  · rw [h.breaks, h.recovers, beq_eq_false_iff_ne.2 (hne .resetting rfl)]; rfl
  · rw [h.breaks]; simp

/-! ### What may be open within a step -/

/-- What is still to be put right within a step. -/
inductive Gap where
  /-- nothing -/
  | whole
  /-- the lane has a new head, or has come to rest, and has not judged it -/
  | unjudged (l : LaneId)
  /-- the lane's attempt is over and its outcome has not been taken -/
  | opened (l : LaneId)
  /-- the lane's active message has ended and the lane is still busy with it -/
  | ended (l : LaneId)
  /-- the new record of this ticket is in no queue -/
  | loose (t : Ticket)

/-- The lane's own laws hold, but for its head. -/
def Gap.portKept (g : Gap) (l : LaneId) : Prop := g ≠ .opened l ∧ g ≠ .ended l

/-- The lane's head has been judged. -/
def Gap.headKept (g : Gap) (l : LaneId) : Prop := g.portKept l ∧ g ≠ .unjudged l

/-- The laws of the part with a gap, on the records as their tickets name them. -/
structure LawfulBut (g : Gap) (s : State) : Prop where
  accounted : Accounted s
  records : ∀ t r, s.record? t = some r → r.chainsLawful ∧ r.fieldsLawful
  caps : ∀ l, s.held l ≤ (s.lane l).config.cap
  nodup : ∀ l, (s.lane l).queue.Nodup
  queued : ∀ t r, s.record? t = some r → r.state = .queued → g ≠ .loose t → t ∈ (s.lane r.lane).queue
  absent : ∀ t, g = .loose t → ∀ l, t ∉ (s.lane l).queue
  entries : ∀ l, ∀ t ∈ (s.lane l).queue, ∃ r, s.record? t = some r ∧ r.lane = l ∧ r.state = .queued
  urgentFirst : ∀ l, (s.lane l).queue.Pairwise fun a b => s.isUrgent b = true → s.isUrgent a = true
  completionNodup : s.table.completion.Nodup
  terminal : ∀ t, t ∈ s.table.completion ↔ ∃ r, s.record? t = some r ∧ r.state.terminal = true
  ports : ∀ l, g.portKept l → PortLawful (s.lane l)
  heads : ∀ l, g.headKept l → HeadLawful (s.lane l)
  active : ∀ l t, g ≠ .ended l → (s.lane l).active = some t → ∃ r, s.record? t = some r ∧ r.lane = l ∧ r.state = .active
  carried : ∀ t r, s.record? t = some r → r.state = .active → g ≠ .ended r.lane ∧ (s.lane r.lane).active = some t
  waitingNodup : (s.pool.waiting.map WaitEntry.lane).Nodup
  waiting : ∀ l, s.isWaiting l = true ↔ (s.lane l).phase = .waitSpace
  needs : ∀ e ∈ s.pool.waiting, 1 ≤ e.need ∧ e.need ≤ 16
  needsHead : ∀ e ∈ s.pool.waiting, g.headKept e.lane → (s.head? e.lane).map Record.replyNeed = some e.need

/-- Where no ticket stands twice, a record is live exactly when its ticket names it (R21). -/
theorem mem_records_iff {s : State} (h : Accounted s) (r : Record) : r ∈ s.table.records ↔ s.record? r.ticket = some r := by
  obtain ⟨⟨-, hnd, -⟩, -⟩ := h
  refine ⟨fun hr => ?_, fun hr => (record?_some hr).1⟩
  obtain ⟨q, hq⟩ := Option.isSome_iff_exists.1 (List.find?_isSome.2 ⟨r, hr, beq_self_eq_true _⟩ :
    (s.table.records.find? fun x => x.ticket == r.ticket).isSome = true)
  obtain ⟨hmem, ht⟩ := record?_some (s := s) hq
  obtain rfl := List.inj_on_of_nodup_map hnd hmem hr ht
  exact hq

/-- Some live record has the ticket and the property, by its ticket. -/
theorem exists_record_iff {s : State} (h : Accounted s) {t : Ticket} {p : Record → Prop} :
    (∃ r ∈ s.table.records, r.ticket = t ∧ p r) ↔ ∃ r, s.record? t = some r ∧ p r := by
  constructor
  · rintro ⟨r, hr, rfl, hp⟩
    exact ⟨r, (mem_records_iff h r).1 hr, hp⟩
  · rintro ⟨r, hr, hp⟩
    exact ⟨r, (record?_some hr).1, (record?_some hr).2, hp⟩

/-- Every live record has the property, by its ticket. -/
theorem forall_record_iff {s : State} (h : Accounted s) {p : Ticket → Record → Prop} :
    (∀ r ∈ s.table.records, p r.ticket r) ↔ ∀ t r, s.record? t = some r → p t r := by
  constructor
  · intro hall t r hr
    obtain ⟨hmem, rfl⟩ := record?_some hr
    exact hall r hmem
  · intro hall r hr
    exact hall _ r ((mem_records_iff h r).1 hr)

theorem isWaiting_eq_iff (s : State) (l : LaneId) :
    s.isWaiting l = ((s.lane l).phase == .waitSpace) ↔ (s.isWaiting l = true ↔ (s.lane l).phase = .waitSpace) := by
  rw [Bool.eq_iff_iff, beq_iff_eq]

/-- Without a gap these are the laws of the part, but for those of the Slot Generators. -/
theorem lawful_iff (s : State) : Lawful s ↔ LawfulBut .whole s ∧ GeneratorsLawful s := by
  have hport (l : LaneId) : Gap.whole.portKept l := ⟨nofun, nofun⟩
  have hhead (l : LaneId) : Gap.whole.headKept l := ⟨hport l, nofun⟩
  constructor
  · rintro ⟨htickets, hblocks, hrecords, hcaps, ⟨hnd, hq, he, hu⟩, ⟨hcn, hc1, hc2⟩, ⟨hp, ha, hca⟩, ⟨hwn, hw, hneed⟩, hgen⟩
    have hacc : Accounted s := ⟨htickets, hblocks⟩
    refine ⟨⟨hacc, (forall_record_iff hacc (p := fun _ r => r.chainsLawful ∧ r.fieldsLawful)).1 hrecords, hcaps, hnd,
      fun t r hr hs _ => (forall_record_iff hacc (p := fun t r => r.state = .queued → t ∈ (s.lane r.lane).queue)).1 hq t r hr hs,
      nofun, fun l t ht => (exists_record_iff hacc).1 (he l t ht), hu, hcn, fun t => ⟨fun ht => (exists_record_iff hacc).1 (hc2 t ht),
        fun ⟨r, hr, hs⟩ => (forall_record_iff hacc (p := fun t r => r.state.terminal = true → t ∈ s.table.completion)).1 hc1
          t r hr hs⟩, fun l _ => ((phaseLawful_iff _).1 (hp l)).1, fun l _ => ((phaseLawful_iff _).1 (hp l)).2,
      fun l t _ ht => (exists_record_iff hacc).1 (ha l t ht),
      fun t r hr hs => ⟨nofun, (forall_record_iff hacc (p := fun t r => r.state = .active →
        (s.lane r.lane).active = some t)).1 hca t r hr hs⟩, hwn, fun l => (isWaiting_eq_iff s l).1 (hw l),
      fun e he => ⟨(hneed e he).1, (hneed e he).2.1⟩, fun e he _ => (hneed e he).2.2⟩, hgen⟩
  · rintro ⟨h, hgen⟩
    have hacc := h.accounted
    exact ⟨hacc.1, hacc.2, (forall_record_iff hacc (p := fun _ r => r.chainsLawful ∧ r.fieldsLawful)).2 h.records, h.caps,
      ⟨h.nodup, (forall_record_iff hacc (p := fun t r => r.state = .queued → t ∈ (s.lane r.lane).queue)).2 fun t r hr hs =>
        h.queued t r hr hs nofun, fun l t ht => (exists_record_iff hacc).2 (h.entries l t ht), h.urgentFirst⟩,
      ⟨h.completionNodup, (forall_record_iff hacc (p := fun t r => r.state.terminal = true → t ∈ s.table.completion)).2
        fun t r hr hs => (h.terminal t).2 ⟨r, hr, hs⟩, fun t ht => (exists_record_iff hacc).2 ((h.terminal t).1 ht)⟩,
      ⟨fun l => (phaseLawful_iff _).2 ⟨h.ports l (hport l), h.heads l (hhead l)⟩,
        fun l t ht => (exists_record_iff hacc).2 (h.active l t nofun ht),
        (forall_record_iff hacc (p := fun t r => r.state = .active → (s.lane r.lane).active = some t)).2 fun t r hr hs =>
          (h.carried t r hr hs).2⟩,
      ⟨h.waitingNodup, fun l => (isWaiting_eq_iff s l).2 (h.waiting l), fun e he =>
        ⟨(h.needs e he).1, (h.needs e he).2, h.needsHead e he (hhead e.lane)⟩⟩, hgen⟩

end Sys2Proof.Proofs.OpenLaws
end

section
/-! PROOFS. The laws of the part within a step: a change of one lane, and a change of one record with its lane. -/

namespace Sys2Proof.Proofs.OpenChanges

-- One theorem at a time: each elaboration thread takes 1 GiB of the check's memory limit.
set_option Elab.async false

open Sys2Proof Sys2Proof.Machine Sys2Proof.Proofs.Messages Sys2Proof.Proofs.LaneQueues Sys2Proof.Proofs.LaneModes
  Sys2Proof.Proofs.Blocks Sys2Proof.Proofs.HeadSelection Sys2Proof.Proofs.OpenLaws

/-! ### Gaps at a lane -/

/-- Away from lane `l` the two gaps leave the same open. -/
structure Beside (g g' : Gap) (l : LaneId) : Prop where
  port : ∀ m, m ≠ l → g'.portKept m → g.portKept m
  head : ∀ m, m ≠ l → g'.headKept m → g.headKept m
  ended : ∀ m, m ≠ l → (g' = .ended m ↔ g = .ended m)

theorem beside_refl (g : Gap) (l : LaneId) : Beside g g l :=
  ⟨fun _ _ h => h, fun _ _ h => h, fun _ _ => Iff.rfl⟩

/-- Nothing is open but at lane `l`. -/
def AtLane (l : LaneId) (g : Gap) : Prop := g = .whole ∨ g = .unjudged l ∨ g = .opened l ∨ g = .ended l

theorem AtLane.portKept {l m : LaneId} {g : Gap} (h : AtLane l g) (hm : m ≠ l) : g.portKept m := by
  rcases h with rfl | rfl | rfl | rfl <;> simp [Gap.portKept, Ne.symm hm]

theorem AtLane.headKept {l m : LaneId} {g : Gap} (h : AtLane l g) (hm : m ≠ l) : g.headKept m := by
  refine ⟨h.portKept hm, ?_⟩
  rcases h with rfl | rfl | rfl | rfl <;> simp [Ne.symm hm]

theorem AtLane.not_ended {l m : LaneId} {g : Gap} (h : AtLane l g) (hm : m ≠ l) : g ≠ .ended m := (h.portKept hm).2

theorem AtLane.not_loose {l : LaneId} {g : Gap} (h : AtLane l g) (t : Ticket) : g ≠ .loose t := by
  rcases h with rfl | rfl | rfl | rfl <;> nofun

theorem AtLane.beside {l : LaneId} {g g' : Gap} (h : AtLane l g) (h' : AtLane l g') : Beside g g' l :=
  ⟨fun _ hm _ => h.portKept hm, fun _ hm _ => h.headKept hm,
    fun _ hm => iff_of_false (h'.not_ended hm) (h.not_ended hm)⟩

theorem atLane_whole (l : LaneId) : AtLane l .whole := .inl rfl
theorem atLane_unjudged (l : LaneId) : AtLane l (.unjudged l) := .inr (.inl rfl)
theorem atLane_opened (l : LaneId) : AtLane l (.opened l) := .inr (.inr (.inl rfl))
theorem atLane_ended (l : LaneId) : AtLane l (.ended l) := .inr (.inr (.inr rfl))

/-! ### Where a record stands -/

section
variable {g : Gap} {s : State} (h : LawfulBut g s) {t : Ticket} {r : Record} (hr : s.record? t = some r)
include h hr

/-- A record is in the completion list exactly when it is terminal (R31). -/
theorem mem_completion_iff : t ∈ s.table.completion ↔ r.state.terminal = true := by
  rw [h.terminal t]
  refine ⟨?_, fun hs => ⟨r, hr, hs⟩⟩
  rintro ⟨q, hq, hs⟩
  obtain rfl : q = r := Option.some.inj (hq.symm.trans hr)
  exact hs

/-- A lane's active ticket names its one ACTIVE record (R74). -/
theorem active_eq_iff (hg : g ≠ .ended r.lane) : (s.lane r.lane).active = some t ↔ r.state = .active := by
  refine ⟨fun ht => ?_, fun hs => (h.carried t r hr hs).2⟩
  obtain ⟨q, hq, -, hs⟩ := h.active r.lane t hg ht
  obtain rfl : q = r := Option.some.inj (hq.symm.trans hr)
  exact hs

/-- A queue entry stands in the lane of its record. -/
theorem lane_of_mem_queue {l : LaneId} (ht : t ∈ (s.lane l).queue) : r.lane = l := by
  obtain ⟨q, hq, hl, -⟩ := h.entries l t ht
  obtain rfl : q = r := Option.some.inj (hq.symm.trans hr)
  exact hl

end

/-! ### Entries of the space waiting list -/

/-- The space waiting list obeys R8 after a change at lane `l`. -/
structure WaitsKept (g : Gap) (s u : State) (l : LaneId) : Prop where
  nodup : (u.pool.waiting.map WaitEntry.lane).Nodup
  others : ∀ e, e.lane ≠ l → (e ∈ u.pool.waiting ↔ e ∈ s.pool.waiting)
  phase : u.isWaiting l = true ↔ (u.lane l).phase = .waitSpace
  needs : ∀ e ∈ u.pool.waiting, e.lane = l → 1 ≤ e.need ∧ e.need ≤ 16
  head : g.headKept l → ∀ e ∈ u.pool.waiting, e.lane = l → (u.head? l).map Record.replyNeed = some e.need

section
variable {g g' : Gap} {s u : State} (h : LawfulBut g s) {l : LaneId}
include h

/-- The list is the same, and so is what it says of the lane. -/
theorem waitsKept_of_same (hw : u.pool.waiting = s.pool.waiting)
    (hp : (u.lane l).phase = .waitSpace ↔ (s.lane l).phase = .waitSpace)
    (hh : (s.lane l).phase = .waitSpace → g'.headKept l → g.headKept l ∧ u.head? l = s.head? l) : WaitsKept g' s u l := by
  have hwaits : u.isWaiting l = s.isWaiting l := by unfold State.isWaiting; rw [hw]
  refine ⟨hw ▸ h.waitingNodup, fun e _ => by rw [hw], by rw [hwaits, hp, h.waiting], fun e he _ => h.needs e (hw ▸ he), ?_⟩
  rintro hg e he rfl
  have he' : e ∈ s.pool.waiting := hw ▸ he
  obtain ⟨hg', hhead⟩ := hh ((h.waiting e.lane).1 ((isWaiting_iff s _).2 ⟨e, he', rfl⟩)) hg
  rw [hhead]
  exact h.needsHead e he' hg'

/-- The lane's entry has left the list. -/
theorem waitsKept_of_removed (hw : u.pool.waiting = s.pool.waiting.filter fun e => e.lane != l)
    (hp : (u.lane l).phase ≠ .waitSpace) : WaitsKept g' s u l := by
  have hmem (e : WaitEntry) : e ∈ u.pool.waiting ↔ e ∈ s.pool.waiting ∧ e.lane ≠ l := by
    rw [hw, List.mem_filter, bne_iff_ne]
  refine ⟨?_, fun e he => by rw [hmem, and_iff_left he], iff_of_false ?_ hp, fun e he hl => ?_, fun _ e he hl => ?_⟩
  · rw [hw]
    exact h.waitingNodup.sublist (List.filter_sublist.map _)
  · rw [isWaiting_iff]
    rintro ⟨e, he, hl⟩
    exact ((hmem e).1 he).2 hl
  · exact absurd hl ((hmem e).1 he).2
  · exact absurd hl ((hmem e).1 he).2

end

/-! ### A change of one lane -/

/-- One lane is rewritten with its entry in the space waiting list; its queue stays, and so does its active ticket unless the
message of that ticket has ended. -/
structure LaneChange (g g' : Gap) (s u : State) (l : LaneId) : Prop where
  table : u.table = s.table
  free : u.pool.free = s.pool.free
  lanes : ∀ m, m ≠ l → u.lane m = s.lane m
  queue : (u.lane l).queue = (s.lane l).queue
  active : ∀ t, g' ≠ .ended l → (u.lane l).active = some t → g ≠ .ended l ∧ (s.lane l).active = some t
  carried : ∀ t, g ≠ .ended l → (s.lane l).active = some t → g' ≠ .ended l ∧ (u.lane l).active = some t
  cap : s.held l ≤ (u.lane l).config.cap
  port : g'.portKept l → PortLawful (u.lane l)
  head : g'.headKept l → HeadLawful (u.lane l)
  waits : WaitsKept g' s u l
  beside : Beside g g' l
  loose : ∀ t, g' = .loose t ↔ g = .loose t

theorem record?_of_table {s u : State} (h : u.table = s.table) (t : Ticket) : u.record? t = s.record? t := by
  unfold State.record?; rw [h]

theorem held_of_table {s u : State} (h : u.table = s.table) (l : LaneId) : u.held l = s.held l := by
  unfold State.held; rw [h]

theorem isUrgent_of_record? {s u : State} {t : Ticket} (h : (u.record? t).map Record.urgent = (s.record? t).map Record.urgent) :
    u.isUrgent t = s.isUrgent t := by
  unfold State.isUrgent
  cases hu : u.record? t <;> cases hs : s.record? t <;> simp_all

theorem head?_of_same {s u : State} {l : LaneId} (hq : (u.lane l).queue = (s.lane l).queue)
    (hr : ∀ t ∈ (s.lane l).queue, u.record? t = s.record? t) : u.head? l = s.head? l := by
  unfold State.head?
  rw [hq]
  cases hs : (s.lane l).queue with
  | nil => rfl
  | cons t q => exact hr t (hs ▸ List.mem_cons_self)

theorem lawfulBut_of_lane {g g' : Gap} {s u : State} {l : LaneId} (h : LawfulBut g s) (c : LaneChange g g' s u l) :
    LawfulBut g' u := by
  have hrec := record?_of_table c.table
  have hheld := held_of_table c.table
  have hqueue (m : LaneId) : (u.lane m).queue = (s.lane m).queue := by
    by_cases hm : m = l
    · rw [hm, c.queue]
    · rw [c.lanes m hm]
  have hurgent (t : Ticket) : u.isUrgent t = s.isUrgent t := isUrgent_of_record? (by rw [hrec])
  have hhead (m : LaneId) : u.head? m = s.head? m := head?_of_same (hqueue m) fun t _ => hrec t
  refine ⟨accounted_of_same h.accounted (by unfold accounts; rw [c.table, c.free]), fun t r hr => h.records t r (hrec t ▸ hr),
    fun m => ?_, fun m => by rw [hqueue]; exact h.nodup m, fun t r hr hs hg => ?_, fun t hg m => ?_, fun m t ht => ?_, fun m => ?_,
    c.table ▸ h.completionNodup, fun t => by rw [c.table, hrec]; exact h.terminal t, fun m hg => ?_, fun m hg => ?_,
    fun m t hg ht => ?_, fun t r hr hs => ?_, c.waits.nodup, fun m => ?_, fun e he => ?_, fun e he hg => ?_⟩
  · rw [hheld]
    by_cases hm : m = l
    · rw [hm]; exact c.cap
    · rw [c.lanes m hm]; exact h.caps m
  · rw [hqueue]
    exact h.queued t r (hrec t ▸ hr) hs (mt (c.loose t).2 hg)
  · rw [hqueue]
    exact h.absent t ((c.loose t).1 hg) m
  · rw [hqueue] at ht
    rw [hrec]
    exact h.entries m t ht
  · rw [hqueue]
    simp only [hurgent]
    exact h.urgentFirst m
  · by_cases hm : m = l
    · subst hm; exact c.port hg
    · rw [c.lanes m hm]; exact h.ports m (c.beside.port m hm hg)
  · by_cases hm : m = l
    · subst hm; exact c.head hg
    · rw [c.lanes m hm]; exact h.heads m (c.beside.head m hm hg)
  · rw [hrec]
    by_cases hm : m = l
    · subst hm
      obtain ⟨hg', ht'⟩ := c.active t hg ht
      exact h.active m t hg' ht'
    · rw [c.lanes m hm] at ht
      exact h.active m t (mt (c.beside.ended m hm).2 hg) ht
  · obtain ⟨hg, ha⟩ := h.carried t r (hrec t ▸ hr) hs
    by_cases hm : r.lane = l
    · rw [hm] at hg ha ⊢
      exact c.carried t hg ha
    · rw [c.lanes _ hm]
      exact ⟨mt (c.beside.ended _ hm).1 hg, ha⟩
  · by_cases hm : m = l
    · subst hm; exact c.waits.phase
    · rw [c.lanes m hm, ← h.waiting m, isWaiting_iff, isWaiting_iff]
      exact exists_congr fun e => and_congr_left fun he => c.waits.others e (he ▸ hm)
  · by_cases hm : e.lane = l
    · exact c.waits.needs e he hm
    · exact h.needs e ((c.waits.others e hm).1 he)
  · by_cases hm : e.lane = l
    · rw [hm] at hg ⊢
      exact c.waits.head hg e he hm
    · rw [hhead]
      exact h.needsHead e ((c.waits.others e hm).1 he) (c.beside.head _ hm hg)

/-! ### A change of one record with its lane -/

/-- One live record is rewritten, with the place of its ticket in lane, queue and completion list. -/
structure RecordChange (g g' : Gap) (s u : State) (t : Ticket) (r : Record) (f : Record → Record) : Prop where
  found : s.record? t = some r
  records : u.table.records = s.table.records.map fun y => if y.ticket = t then f y else y
  ticket : ∀ y, (f y).ticket = y.ticket
  lane : (f r).lane = r.lane
  urgent : (f r).urgent = r.urgent
  lawful : (f r).chainsLawful ∧ (f r).fieldsLawful
  accounted : Accounted u
  lanes : ∀ m, m ≠ r.lane → u.lane m = s.lane m
  cap : s.held r.lane + (f r).blocks ≤ (u.lane r.lane).config.cap + r.blocks
  nodup : (u.lane r.lane).queue.Nodup
  queue : ∀ a, a ≠ t → (a ∈ (u.lane r.lane).queue ↔ a ∈ (s.lane r.lane).queue)
  queued : t ∈ (u.lane r.lane).queue ↔ (f r).state = .queued
  urgentFirst : (u.lane r.lane).queue.Pairwise fun a b => s.isUrgent b = true → s.isUrgent a = true
  completionNodup : u.table.completion.Nodup
  completion : ∀ a, a ≠ t → (a ∈ u.table.completion ↔ a ∈ s.table.completion)
  terminal : t ∈ u.table.completion ↔ (f r).state.terminal = true
  port : g'.portKept r.lane → PortLawful (u.lane r.lane)
  head : g'.headKept r.lane → HeadLawful (u.lane r.lane)
  actives : ∀ a, a ≠ t → ((u.lane r.lane).active = some a ↔ (s.lane r.lane).active = some a)
  active : g' ≠ .ended r.lane → (u.lane r.lane).active = some t → (f r).state = .active
  carried : (f r).state = .active → g' ≠ .ended r.lane ∧ (u.lane r.lane).active = some t
  waits : WaitsKept g' s u r.lane
  beside : Beside g g' r.lane
  placed : g' ≠ .loose t
  loose : ∀ a, a ≠ t → (g' = .loose a ↔ g = .loose a)
  stays : g = .ended r.lane → g' = .ended r.lane
  ends : g' = .ended r.lane → g = .ended r.lane ∨ (s.lane r.lane).active = some t

section
variable {s u : State} {t : Ticket} {r : Record} {f : Record → Record}
  (hrecords : u.table.records = s.table.records.map fun y => if y.ticket = t then f y else y)
  (hticket : ∀ y, (f y).ticket = y.ticket)
include hrecords hticket

/-- After one record is rewritten its ticket names the rewritten record, and every other ticket what it did. -/
theorem record?_of_rewritten (a : Ticket) : u.record? a = (s.record? a).map fun y => if y.ticket = t then f y else y := by
  rw [← record?_onRecord s t hticket]
  unfold State.record?
  rw [hrecords]
  rfl

theorem record?_of_rewritten_self (hr : s.record? t = some r) : u.record? t = some (f r) := by
  rw [record?_of_rewritten hrecords hticket, hr, Option.map_some, if_pos (record?_some hr).2]

theorem record?_of_rewritten_ne {a : Ticket} (ha : a ≠ t) : u.record? a = s.record? a := by
  rw [record?_of_rewritten hrecords hticket]
  cases hs : s.record? a with
  | none => rfl
  | some q => rw [Option.map_some, if_neg (by rw [(record?_some hs).2]; exact ha)]

omit hticket in
/-- The held counts move by what the rewritten record holds (R3). -/
theorem held_of_rewritten (h : Accounted s) (hr : s.record? t = some r) (hlane : (f r).lane = r.lane) (l : LaneId) :
    u.held l + (if r.lane = l then r.blocks else 0) = s.held l + if r.lane = l then (f r).blocks else 0 := by
  obtain ⟨⟨-, hnd, -⟩, -⟩ := h
  obtain ⟨before, after, hsplit, -, hmap⟩ := map_ticket_split hnd hr
  unfold State.held
  rw [hrecords, hmap, hsplit]
  by_cases hl : r.lane = l
  · simp [hl, hlane]
    omega
  · simp [hl, hlane]

end

theorem lawfulBut_of_record {g g' : Gap} {s u : State} {t : Ticket} {r : Record} {f : Record → Record} (h : LawfulBut g s)
    (c : RecordChange g g' s u t r f) : LawfulBut g' u := by
  have hself := record?_of_rewritten_self c.records c.ticket c.found
  have hother {a : Ticket} (ha : a ≠ t) : u.record? a = s.record? a := record?_of_rewritten_ne c.records c.ticket ha
  have hheld := held_of_rewritten c.records h.accounted c.found c.lane
  have hurgent (a : Ticket) : u.isUrgent a = s.isUrgent a := by
    refine isUrgent_of_record? ?_
    by_cases ha : a = t
    · rw [ha, hself, c.found, Option.map_some, Option.map_some, c.urgent]
    · rw [hother ha]
  have hnot {m : LaneId} (hm : m ≠ r.lane) : t ∉ (s.lane m).queue := fun ht => hm (lane_of_mem_queue h c.found ht).symm
  have hhead {m : LaneId} (hm : m ≠ r.lane) : u.head? m = s.head? m :=
    head?_of_same (by rw [c.lanes m hm]) fun a ha => hother fun hat => hnot hm (hat ▸ ha)
  refine ⟨c.accounted, fun a q hq => ?_, fun m => ?_, fun m => ?_, fun a q hq hs hg => ?_, fun a hg m => ?_, fun m a ha => ?_,
    fun m => ?_, c.completionNodup, fun a => ?_, fun m hg => ?_, fun m hg => ?_, fun m a hg ha => ?_, fun a q hq hs => ?_, c.waits.nodup,
    fun m => ?_, fun e he => ?_, fun e he hg => ?_⟩
  · by_cases ha : a = t
    · obtain rfl : f r = q := Option.some.inj (hself.symm.trans (ha ▸ hq))
      exact c.lawful
    · exact h.records a q (hother ha ▸ hq)
  · have hm := hheld m
    by_cases hl : r.lane = m
    · subst hl
      have := c.cap
      simp only [if_true] at hm
      omega
    · simp only [if_neg hl] at hm
      rw [c.lanes m (Ne.symm hl)]
      have := h.caps m
      omega
  · by_cases hm : m = r.lane
    · rw [hm]; exact c.nodup
    · rw [c.lanes m hm]; exact h.nodup m
  · by_cases ha : a = t
    · obtain rfl : f r = q := Option.some.inj (hself.symm.trans (ha ▸ hq))
      rw [ha, c.lane]
      exact c.queued.2 hs
    · have hmem := h.queued a q (hother ha ▸ hq) hs (mt (c.loose a ha).2 hg)
      by_cases hm : q.lane = r.lane
      · rw [hm] at hmem ⊢
        exact (c.queue a ha).2 hmem
      · rw [c.lanes _ hm]; exact hmem
  · have ha : a ≠ t := fun ha => c.placed (ha ▸ hg)
    have hnone := h.absent a ((c.loose a ha).1 hg)
    by_cases hm : m = r.lane
    · rw [hm, c.queue a ha]; exact hnone _
    · rw [c.lanes m hm]; exact hnone m
  · by_cases hm : m = r.lane
    · subst hm
      by_cases hat : a = t
      · rw [hat] at ha ⊢
        exact ⟨f r, hself, c.lane, c.queued.1 ha⟩
      · rw [hother hat]
        exact h.entries _ a ((c.queue a hat).1 ha)
    · rw [c.lanes m hm] at ha
      rw [hother fun hat => hnot hm (hat ▸ ha)]
      exact h.entries m a ha
  · simp only [hurgent]
    by_cases hm : m = r.lane
    · rw [hm]; exact c.urgentFirst
    · rw [c.lanes m hm]; exact h.urgentFirst m
  · by_cases ha : a = t
    · rw [ha, c.terminal, hself]
      simp
    · rw [c.completion a ha, hother ha]
      exact h.terminal a
  · by_cases hm : m = r.lane
    · subst hm; exact c.port hg
    · rw [c.lanes m hm]; exact h.ports m (c.beside.port m hm hg)
  · by_cases hm : m = r.lane
    · subst hm; exact c.head hg
    · rw [c.lanes m hm]; exact h.heads m (c.beside.head m hm hg)
  · by_cases hm : m = r.lane
    · subst hm
      by_cases hat : a = t
      · rw [hat] at ha ⊢
        exact ⟨f r, hself, c.lane, c.active hg ha⟩
      · rw [hother hat]
        exact h.active _ a (mt c.stays hg) ((c.actives a hat).1 ha)
    · rw [c.lanes m hm] at ha
      have hg' := mt (c.beside.ended m hm).2 hg
      have hat : a ≠ t := by
        rintro rfl
        obtain ⟨q, hq, hl, -⟩ := h.active m a hg' ha
        obtain rfl : q = r := Option.some.inj (hq.symm.trans c.found)
        exact hm hl.symm
      rw [hother hat]
      exact h.active m a hg' ha
  · by_cases ha : a = t
    · obtain rfl : f r = q := Option.some.inj (hself.symm.trans (ha ▸ hq))
      rw [ha, c.lane]
      exact c.carried hs
    · obtain ⟨hg, hact⟩ := h.carried a q (hother ha ▸ hq) hs
      by_cases hm : q.lane = r.lane
      · rw [hm] at hg hact ⊢
        refine ⟨fun hg' => ?_, (c.actives a ha).2 hact⟩
        rcases c.ends hg' with he | he
        · exact hg he
        · exact ha (Option.some.inj (hact.symm.trans he))
      · rw [c.lanes _ hm]
        exact ⟨mt (c.beside.ended _ hm).1 hg, hact⟩
  · by_cases hm : m = r.lane
    · subst hm; exact c.waits.phase
    · rw [c.lanes m hm, ← h.waiting m, isWaiting_iff, isWaiting_iff]
      exact exists_congr fun e => and_congr_left fun he => c.waits.others e (he ▸ hm)
  · by_cases hm : e.lane = r.lane
    · exact c.waits.needs e he hm
    · exact h.needs e ((c.waits.others e hm).1 he)
  · by_cases hm : e.lane = r.lane
    · rw [hm] at hg ⊢
      exact c.waits.head hg e he hm
    · rw [hhead hm]
      exact h.needsHead e ((c.waits.others e hm).1 he) (c.beside.head _ hm hg)

end Sys2Proof.Proofs.OpenChanges
end

section
/-! PROOFS. The laws of the part within a step: each kind of change to a lane and to its entry in the space waiting list. -/

namespace Sys2Proof.Proofs.OpenLanes

-- One theorem at a time: each elaboration thread takes 1 GiB of the check's memory limit.
set_option Elab.async false

open Sys2Proof Sys2Proof.Machine Sys2Proof.Proofs.Messages Sys2Proof.Proofs.LaneQueues Sys2Proof.Proofs.LaneModes
  Sys2Proof.Proofs.Blocks Sys2Proof.Proofs.HeadSelection Sys2Proof.Proofs.OpenLaws Sys2Proof.Proofs.OpenChanges

/-! ### What the laws read of a lane -/

/-- What the laws read of a lane. -/
def lawView (x : Lane) : Nat × List Ticket × Mode × Phase × Option Ticket × Option Nat × Option Nat × DropPort :=
  (x.config.cap, x.queue, x.mode, x.phase, x.active, x.ackTimer, x.backoffTimer, x.port)

theorem portLawful_of_view {x y : Lane} (hc : lawView y = lawView x) (h : PortLawful x) : PortLawful y := by
  cases x
  cases y
  simp only [lawView, Prod.mk.injEq] at hc
  obtain ⟨-, rfl, rfl, rfl, rfl, rfl, rfl, rfl⟩ := hc
  exact ⟨h.active, h.halt, h.waits, h.ack, h.backoff, h.sending, h.frame, h.expected, h.awaits, h.discarding, h.breaking,
    h.timers, h.oneTimer⟩

theorem headLawful_of_view {x y : Lane} (hc : lawView y = lawView x) (h : HeadLawful x) : HeadLawful y := by
  cases x
  cases y
  simp only [lawView, Prod.mk.injEq] at hc
  obtain ⟨-, rfl, rfl, rfl, -⟩ := hc
  exact ⟨h.waits, h.rests⟩

/-- A lane that is neither idle nor waiting has no head to judge. -/
theorem headLawful_of_phase {x : Lane} (h1 : x.phase ≠ .idle) (h2 : x.phase ≠ .waitTime) (h3 : x.phase ≠ .waitSpace) :
    HeadLawful x :=
  ⟨fun h => (h.elim h2 h3).elim, fun _ h => (h1 h).elim⟩

theorem headLawful_of_carries {x : Lane} (h : x.phase.carries = true) : HeadLawful x := by
  refine headLawful_of_phase ?_ ?_ ?_ <;> intro hp <;> rw [hp] at h <;> cases h

/-- An idle lane out of PASS has no head to judge. -/
theorem headLawful_of_rest {x : Lane} (hp : x.phase = .idle) (hm : x.mode ≠ .pass) : HeadLawful x :=
  ⟨fun h => by rw [hp] at h; simp at h, fun h => (hm h).elim⟩

theorem lane_withLane_of_ne (s : State) {l m : LaneId} (x : Lane) (h : m ≠ l) : (s.withLane l x).lane m = s.lane m :=
  lane_onLane_of_ne s (fun _ => x) h.symm

/-! ### Changes that the laws do not see -/

section
variable {g g' : Gap} {s u : State} {l : LaneId} {x : Lane} (h : LawfulBut g s)
include h

/-- The laws read pool, Message Table and lanes alone. -/
theorem lawfulBut_of_same (hp : u.pool = s.pool) (ht : u.table = s.table) (hl : u.lanes = s.lanes) : LawfulBut g u := by
  have hlane (m : LaneId) : u.lane m = s.lane m := by unfold State.lane; rw [hl]
  refine lawfulBut_of_lane (l := 0) h ⟨ht, by rw [hp], fun m _ => hlane m, by rw [hlane], fun t hg ha => ⟨hg, hlane 0 ▸ ha⟩,
    fun t hg ha => ⟨hg, by rw [hlane]; exact ha⟩, by rw [hlane]; exact h.caps 0, fun hg => hlane 0 ▸ h.ports 0 hg,
    fun hg => hlane 0 ▸ h.heads 0 hg, ?_, beside_refl g 0, fun _ => Iff.rfl⟩
  refine waitsKept_of_same h (by rw [hp]) (by rw [hlane]) fun _ hg => ⟨hg, ?_⟩
  exact head?_of_same (by rw [hlane]) fun t _ => record?_of_table ht t

theorem lawfulBut_raise (e : Event) : LawfulBut g (s.raise e) := lawfulBut_of_same h rfl rfl rfl

theorem lawfulBut_onLink (f : ControlLink → ControlLink) : LawfulBut g (s.onLink f) := lawfulBut_of_same h rfl rfl rfl

/-- A lane replaced by one of the same queue and active ticket, at which other laws may be open. -/
theorem lawfulBut_withLane (hb : Beside g g' l) (hloose : ∀ t, g' = .loose t ↔ g = .loose t)
    (hend : g' = .ended l ↔ g = .ended l) (hq : x.queue = (s.lane l).queue) (ha : x.active = (s.lane l).active)
    (hc : x.config.cap = (s.lane l).config.cap) (hp : x.phase = .waitSpace ↔ (s.lane l).phase = .waitSpace)
    (hw : (s.lane l).phase = .waitSpace → g'.headKept l → g.headKept l)
    (hport : g'.portKept l → PortLawful x) (hhead : g'.headKept l → HeadLawful x) : LawfulBut g' (s.withLane l x) := by
  have hx : (s.withLane l x).lane l = x := lane_withLane_self s l x
  refine lawfulBut_of_lane h ⟨rfl, rfl, fun m hm => lane_withLane_of_ne s x hm, by rw [hx, hq], fun t hg ht => ⟨mt hend.2 hg, ?_⟩,
    fun t hg ht => ⟨mt hend.1 hg, ?_⟩, by rw [hx, hc]; exact h.caps l, fun hg => by rw [hx]; exact hport hg,
    fun hg => by rw [hx]; exact hhead hg, ?_, hb, hloose⟩
  · rw [hx] at ht; exact ha ▸ ht
  · rw [hx, ha]; exact ht
  · exact waitsKept_of_same h rfl (by rw [hx]; exact hp) fun hs hg =>
      ⟨hw hs hg, head?_of_same (by rw [hx, hq]) fun _ _ => rfl⟩

/-- A lane replaced by one in which the laws read the same. -/
theorem lawfulBut_sameView (hx : lawView x = lawView (s.lane l)) : LawfulBut g (s.withLane l x) := by
  have hx' := hx
  simp only [lawView, Prod.mk.injEq] at hx'
  obtain ⟨hc, hq, -, hp, ha, -⟩ := hx'
  exact lawfulBut_withLane h (beside_refl g l) (fun _ => Iff.rfl) Iff.rfl hq ha hc (by rw [hp]) (fun _ hg => hg)
    (fun hg => portLawful_of_view hx (h.ports l hg)) fun hg => headLawful_of_view hx (h.heads l hg)

end

/-! ### A lane of a whole state, and the attempt of a lane -/

section
variable {s : State} {l : LaneId} {x : Lane}

/-- A lane replaced in a whole state, whose head is still to be judged. -/
theorem unjudged_withLane (h : LawfulBut .whole s) (hq : x.queue = (s.lane l).queue) (ha : x.active = (s.lane l).active)
    (hc : x.config.cap = (s.lane l).config.cap) (hp : x.phase = .waitSpace ↔ (s.lane l).phase = .waitSpace)
    (hport : PortLawful x) : LawfulBut (.unjudged l) (s.withLane l x) :=
  lawfulBut_withLane h ((atLane_whole l).beside (atLane_unjudged l)) (fun _ => iff_of_false nofun nofun)
    (iff_of_false nofun nofun) hq ha hc hp (fun _ _ => ⟨⟨nofun, nofun⟩, nofun⟩) (fun _ => hport) fun hg => absurd rfl hg.2

/-- The laws leave more open: the head of the lane. -/
theorem unjudged_of_whole (h : LawfulBut .whole s) (l : LaneId) : LawfulBut (.unjudged l) s := by
  rw [← withLane_lane s l]
  exact unjudged_withLane h rfl rfl rfl Iff.rfl (h.ports l ⟨nofun, nofun⟩)

/-- A lane replaced in a whole state. -/
theorem whole_withLane (h : LawfulBut .whole s) (hq : x.queue = (s.lane l).queue) (ha : x.active = (s.lane l).active)
    (hc : x.config.cap = (s.lane l).config.cap) (hp : x.phase = .waitSpace ↔ (s.lane l).phase = .waitSpace)
    (hport : PortLawful x) (hhead : HeadLawful x) : LawfulBut .whole (s.withLane l x) :=
  lawfulBut_withLane h (beside_refl _ l) (fun _ => Iff.rfl) Iff.rfl hq ha hc hp (fun _ hg => hg) (fun _ => hport) fun _ => hhead

/-- The lane's attempt is over. -/
theorem opened_withLane (h : LawfulBut .whole s) (hq : x.queue = (s.lane l).queue) (ha : x.active = (s.lane l).active)
    (hc : x.config.cap = (s.lane l).config.cap) (hp : x.phase = .waitSpace ↔ (s.lane l).phase = .waitSpace) :
    LawfulBut (.opened l) (s.withLane l x) :=
  lawfulBut_withLane h ((atLane_whole l).beside (atLane_opened l)) (fun _ => iff_of_false nofun nofun)
    (iff_of_false nofun nofun) hq ha hc hp (fun _ _ => ⟨⟨nofun, nofun⟩, nofun⟩) (fun hg => absurd rfl hg.1)
    fun hg => absurd rfl hg.1.1

/-- Another attempt of the same message. -/
theorem whole_of_opened (h : LawfulBut (.opened l) s) (hq : x.queue = (s.lane l).queue)
    (ha : x.active = (s.lane l).active) (hc : x.config.cap = (s.lane l).config.cap) (hs : (s.lane l).phase ≠ .waitSpace)
    (hp : x.phase ≠ .waitSpace) (hport : PortLawful x) (hhead : HeadLawful x) : LawfulBut .whole (s.withLane l x) :=
  lawfulBut_withLane h ((atLane_opened l).beside (atLane_whole l)) (fun _ => iff_of_false nofun nofun)
    (iff_of_false nofun nofun) hq ha hc (iff_of_false hp hs) (fun he => absurd he hs) (fun _ => hport) fun _ => hhead

/-- The head of a lane that does not wait for space has been judged. -/
theorem judged_withLane (h : LawfulBut (.unjudged l) s) (hq : x.queue = (s.lane l).queue)
    (ha : x.active = (s.lane l).active) (hc : x.config.cap = (s.lane l).config.cap) (hs : (s.lane l).phase ≠ .waitSpace)
    (hp : x.phase ≠ .waitSpace) (hport : PortLawful x) (hhead : HeadLawful x) : LawfulBut .whole (s.withLane l x) :=
  lawfulBut_withLane h ((atLane_unjudged l).beside (atLane_whole l)) (fun _ => iff_of_false nofun nofun)
    (iff_of_false nofun nofun) hq ha hc (iff_of_false hp hs) (fun he => absurd he hs) (fun _ => hport) fun _ => hhead

/-- A lane whose head needs no judgement, or is the judged one still. -/
theorem whole_of_unjudged (h : LawfulBut (.unjudged l) s) (hhead : HeadLawful (s.lane l))
    (hneed : ∀ e ∈ s.pool.waiting, e.lane = l → (s.head? l).map Record.replyNeed = some e.need) : LawfulBut .whole s := by
  refine lawfulBut_of_lane (l := l) h ⟨rfl, rfl, fun _ _ => rfl, rfl, fun _ _ ha => ⟨nofun, ha⟩, fun _ _ ha => ⟨nofun, ha⟩,
    h.caps l, fun _ => h.ports l ⟨nofun, nofun⟩, fun _ => hhead, ?_, (atLane_unjudged l).beside (atLane_whole l),
    fun _ => iff_of_false nofun nofun⟩
  exact ⟨h.waitingNodup, fun _ _ => Iff.rfl, h.waiting l, fun e he _ => h.needs e he, fun _ => hneed⟩

/-- The lane is rid of its ended message: it is still and has come to rest. -/
theorem unjudged_of_ended (h : LawfulBut (.ended l) s) (hx : Still x) (hq : x.queue = (s.lane l).queue)
    (hc : x.config.cap = (s.lane l).config.cap) (hs : (s.lane l).phase ≠ .waitSpace) (ha : x.active = none)
    (hp : x.phase = .idle) : LawfulBut (.unjudged l) (s.withLane l x) := by
  have hlane : (s.withLane l x).lane l = x := lane_withLane_self s l x
  refine lawfulBut_of_lane h ⟨rfl, rfl, fun m hm => lane_withLane_of_ne s x hm, by rw [hlane, hq], fun t _ ht => ?_,
    fun t hg => absurd rfl hg, by rw [hlane, hc]; exact h.caps l, fun _ => ?_, fun hg => absurd rfl hg.2, ?_,
    (atLane_ended l).beside (atLane_unjudged l), fun _ => iff_of_false nofun nofun⟩
  · rw [hlane, ha] at ht; cases ht
  · rw [hlane]
    refine hx.portLawful ?_ ?_ (fun _ => ha) fun hw => ?_
    · rw [hp]; rfl
    · rw [ha, hp]; rfl
    · rw [hp] at hw
      rcases hw with hw | hw <;> cases hw
  · refine waitsKept_of_same h rfl (iff_of_false ?_ hs) fun he => absurd he hs
    rw [hlane, hp]
    nofun

/-! ### Entries of the space waiting list -/

/-- The lane's entry has left the list, and the lane no longer waits for space. -/
theorem whole_removed {g : Gap} (h : LawfulBut g s) (hg : g = .whole ∨ g = .unjudged l) (hq : x.queue = (s.lane l).queue)
    (ha : x.active = (s.lane l).active) (hc : x.config.cap = (s.lane l).config.cap) (hp : x.phase ≠ .waitSpace)
    (hport : PortLawful x) (hhead : HeadLawful x) : LawfulBut .whole ((s.removeWaiting l).withLane l x) := by
  have hlane : ((s.removeWaiting l).withLane l x).lane l = x := lane_withLane_self _ l x
  have hat : AtLane l g := hg.elim .inl fun hg => .inr (.inl hg)
  have hend : g ≠ .ended l := by rcases hg with rfl | rfl <;> nofun
  exact lawfulBut_of_lane h ⟨rfl, rfl, fun m hm => lane_withLane_of_ne (s.removeWaiting l) x hm, by rw [hlane, hq],
    fun t _ ht => ⟨hend, by rw [hlane, ha] at ht; exact ht⟩, fun t _ ht => ⟨nofun, by rw [hlane, ha]; exact ht⟩,
    by rw [hlane, hc]; exact h.caps l, fun _ => by rw [hlane]; exact hport, fun _ => by rw [hlane]; exact hhead,
    waitsKept_of_removed h rfl (by rw [hlane]; exact hp), hat.beside (atLane_whole l),
    fun t => iff_of_false nofun (hat.not_loose t)⟩

/-- The lane joins the list with the need of its head (R7). -/
theorem whole_joined (h : LawfulBut (.unjudged l) s) {r : Record} (hr : s.head? l = some r) (hm : (s.lane l).mode = .pass)
    (hs : (s.lane l).phase = .idle ∨ (s.lane l).phase = .waitTime) (hn : 1 ≤ r.replyNeed ∧ r.replyNeed ≤ 16) :
    LawfulBut .whole ((s.setPhase l .waitSpace).appendWaiting ⟨l, r.replyNeed⟩) := by
  let u := (s.setPhase l .waitSpace).appendWaiting ⟨l, r.replyNeed⟩
  have hlane : u.lane l = { s.lane l with phase := .waitSpace } := lane_withLane_self s l _
  have hport := h.ports l ⟨nofun, nofun⟩
  have hphase : Phase.still (s.lane l).phase = true ∧ (s.lane l).phase.carries = false ∧ (s.lane l).phase ≠ .waitSpace := by
    rcases hs with e | e <;> rw [e] <;> exact ⟨rfl, rfl, nofun⟩
  obtain ⟨hstill, hcarries, hnot⟩ := hphase
  have hx := hport.still hstill
  have habsent : ∀ e ∈ s.pool.waiting, e.lane ≠ l := (not_isWaiting_iff s l).1 (by
    rw [← Bool.not_eq_true, h.waiting]; exact hnot)
  have hmem (e : WaitEntry) : e ∈ u.pool.waiting ↔ e ∈ s.pool.waiting ∨ e = ⟨l, r.replyNeed⟩ := by
    change e ∈ s.pool.waiting ++ [_] ↔ _
    rw [List.mem_append, List.mem_singleton]
  have hself {e : WaitEntry} (he : e ∈ u.pool.waiting) (hl : e.lane = l) : e = ⟨l, r.replyNeed⟩ :=
    ((hmem e).1 he).resolve_left fun hold => habsent e hold hl
  have hhead : u.head? l = some r := (head?_of_same (s := s) (u := u) (by rw [hlane]) fun _ _ => rfl).trans hr
  refine lawfulBut_of_lane h (u := u) ⟨rfl, rfl, fun m hm => lane_withLane_of_ne s _ hm, by rw [hlane],
    fun t _ ht => ⟨nofun, by rw [hlane] at ht; exact ht⟩, fun t _ ht => ⟨nofun, by rw [hlane]; exact ht⟩,
    by rw [hlane]; exact h.caps l, fun _ => ?_, fun _ => ?_, ⟨?_, fun e he => ?_, ?_, fun e he hl => ?_, fun _ e he hl => ?_⟩,
    (atLane_unjudged l).beside (atLane_whole l), fun _ => iff_of_false nofun nofun⟩
  · rw [hlane]
    refine Still.portLawful ⟨hx.ack, hx.backoff, hx.idle, hx.frame, hx.expected, hx.discarding, hx.breaks, hx.recovers⟩ rfl ?_
      hport.halt fun _ => hm
    exact hport.active.trans hcarries
  · rw [hlane]
    refine ⟨fun _ hnil => ?_, fun _ he => nomatch he⟩
    rw [head?_of_nil hnil] at hr
    cases hr
  · change ((s.pool.waiting ++ [_]).map WaitEntry.lane).Nodup
    rw [List.map_append, List.nodup_append]
    refine ⟨h.waitingNodup, List.nodup_singleton _, ?_⟩
    rintro _ hm' b hb rfl
    obtain ⟨e, he, rfl⟩ := List.mem_map.1 hm'
    exact habsent e he (List.mem_singleton.1 hb)
  · rw [hmem]
    exact or_iff_left fun heq => he (by rw [heq])
  · rw [isWaiting_iff, hlane]
    exact iff_of_true ⟨_, (hmem _).2 (.inr rfl), rfl⟩ rfl
  · rw [hself he hl]
    exact hn
  · rw [hself he hl, hhead]
    rfl

/-- The lane's entry takes the need of a new head in its own place (R13). -/
theorem whole_setNeed (h : LawfulBut (.unjudged l) s) {r : Record} (hr : s.head? l = some r)
    (hm : (s.lane l).phase = .waitSpace) (hn : 1 ≤ r.replyNeed ∧ r.replyNeed ≤ 16) :
    LawfulBut .whole (s.setNeed l r.replyNeed) := by
  let swap (e : WaitEntry) : WaitEntry := if e.lane = l then ⟨l, r.replyNeed⟩ else e
  have hlanes (e : WaitEntry) : (swap e).lane = e.lane := by
    by_cases he : e.lane = l
    · simp only [swap, if_pos he, he]
    · simp only [swap, if_neg he]
  have hmem (e : WaitEntry) : e ∈ (s.setNeed l r.replyNeed).pool.waiting ↔ ∃ d ∈ s.pool.waiting, swap d = e := List.mem_map
  have hself {e : WaitEntry} (he : e ∈ (s.setNeed l r.replyNeed).pool.waiting) (hl : e.lane = l) : e = ⟨l, r.replyNeed⟩ := by
    obtain ⟨d, -, rfl⟩ := (hmem e).1 he
    exact if_pos ((hlanes d).symm.trans hl)
  have hmap : (s.setNeed l r.replyNeed).pool.waiting.map WaitEntry.lane = s.pool.waiting.map WaitEntry.lane := by
    change (s.pool.waiting.map swap).map _ = _
    rw [List.map_map]
    exact List.map_congr_left fun e _ => hlanes e
  refine lawfulBut_of_lane h ⟨rfl, rfl, fun _ _ => rfl, rfl, fun _ _ ht => ⟨nofun, ht⟩, fun _ _ ht => ⟨nofun, ht⟩, h.caps l,
    fun _ => h.ports l ⟨nofun, nofun⟩, fun _ => ⟨fun _ hnil => ?_, fun _ hp => ?_⟩,
    ⟨hmap ▸ h.waitingNodup, fun e he => ?_, ?_, fun e he hl => ?_, fun _ e he hl => ?_⟩,
    (atLane_unjudged l).beside (atLane_whole l), fun _ => iff_of_false nofun nofun⟩
  · rw [head?_of_nil (s := s) hnil] at hr
    cases hr
  · exact absurd (hm.symm.trans hp) nofun
  · rw [hmem]
    refine ⟨?_, fun hold => ⟨e, hold, if_neg he⟩⟩
    rintro ⟨d, hd, rfl⟩
    rw [hlanes] at he
    rw [show swap d = d from if_neg he]
    exact hd
  · obtain ⟨e, he, hl⟩ := (isWaiting_iff s l).1 ((h.waiting l).2 hm)
    rw [isWaiting_iff]
    exact iff_of_true ⟨swap e, (hmem _).2 ⟨e, he, rfl⟩, (hlanes e).trans hl⟩ hm
  · rw [hself he hl]
    exact hn
  · rw [hself he hl]
    exact congrArg (Option.map Record.replyNeed) hr

end

end Sys2Proof.Proofs.OpenLanes
end

section
/-! PROOFS. The laws of the part within a step: each kind of change to a record, with its place in lane and completion list. -/

namespace Sys2Proof.Proofs.OpenRecords

-- One theorem at a time: each elaboration thread takes 1 GiB of the check's memory limit.
set_option Elab.async false

open Sys2Proof Sys2Proof.Machine Sys2Proof.Proofs.Messages Sys2Proof.Proofs.LaneQueues Sys2Proof.Proofs.LaneModes
  Sys2Proof.Proofs.Blocks Sys2Proof.Proofs.HeadSelection Sys2Proof.Proofs.OpenLaws Sys2Proof.Proofs.OpenChanges
  Sys2Proof.Proofs.OpenLanes

/-! ### Lawful records -/

/-- Chains and fields of a record together (R2, R22). -/
abbrev RecordLawful (r : Record) : Prop := r.chainsLawful ∧ r.fieldsLawful

/-- `q` is `r` but for what the attempts of an active message write. -/
structure Touched (r q : Record) : Prop where
  lane : q.lane = r.lane
  urgent : q.urgent = r.urgent
  state : q.state = r.state
  wanted : q.replyWanted = r.replyWanted
  limit : q.replyLimit = r.replyLimit
  payloadLength : q.payloadLength = r.payloadLength
  cause : q.cause = r.cause
  rejectCode : q.rejectCode = r.rejectCode
  replyLength : q.replyLength = r.replyLength
  completionTime : q.completionTime = r.completionTime
  payloadChain : q.payloadChain = r.payloadChain
  payload : q.payload = r.payload
  replyChain : q.replyChain = r.replyChain

theorem Touched.blocks {r q : Record} (h : Touched r q) : q.blocks = r.blocks := by
  rw [Record.blocks, Record.blocks, h.payloadChain, h.replyChain]

theorem Touched.lawful {r q : Record} (h : Touched r q) (hs : r.state = .active) (hr : RecordLawful r) : RecordLawful q := by
  have hq : q.state = .active := h.state.trans hs
  obtain ⟨⟨hpc, hrc⟩, hl, hm, hp, hc, hcause, hrej, hrl, hle, -, hpay⟩ := hr
  simp only [hs] at hpc hrc hc hcause
  refine ⟨⟨?_, ?_⟩, ?_, ?_, ?_, ?_, ?_, ?_, fun hne => ?_, ?_, fun hd => ?_, fun _ => ?_⟩
  · simp only [hq, h.payloadChain, h.payloadLength, hpc]
  · simp only [hq, Record.replyNeed, h.replyChain, h.wanted, h.limit, hrc]
  · rw [h.limit, h.wanted, hl]
  · rw [h.limit]; exact hm
  · rw [h.payloadLength]; exact hp
  · rw [h.completionTime, hq, hc]
  · rw [h.cause, hq, hcause]
  · rw [h.rejectCode, h.cause, hrej]
  · rw [h.replyLength] at hne
    exact absurd (hs.symm.trans (hrl hne).1) nofun
  · rw [h.replyLength, h.limit]; exact hle
  · exact absurd (hq.symm.trans hd) nofun
  · rw [h.payload, h.payloadLength]
    exact hpay (.inr hs)

/-- No reply bytes are recorded before DONE (R22). -/
theorem replyLength_eq_zero {r : Record} (h : RecordLawful r) (hs : r.state ≠ .done) : r.replyLength = 0 := by
  obtain ⟨-, -, -, -, -, -, -, hrl, -⟩ := h
  by_contra hne
  exact hs (hrl hne).1

/-- A record that has FAILED or been CANCELLED is lawful when its reject code fits its cause (R16, R30). -/
theorem lawful_finish {r : Record} (h : RecordLawful r) (hs : r.state ≠ .done) {st : RecordState}
    (hst : st = .failed ∨ st = .cancelled) {cause : Cause} {reject : Option Byte}
    (hrej : reject.isSome = (cause == .rejected)) (time : PartTime) : RecordLawful (Record.finish st cause reject time r) := by
  have h0 := replyLength_eq_zero h hs
  obtain ⟨-, hl, hm, hp, -⟩ := h
  refine ⟨⟨?_, ?_⟩, hl, hm, hp, ?_, ?_, hrej, fun hne => absurd h0 hne, ?_, fun hd => ?_, fun hd => ?_⟩
  · rcases hst with rfl | rfl <;> rfl
  · rcases hst with rfl | rfl <;> rfl
  · rcases hst with rfl | rfl <;> rfl
  · rcases hst with rfl | rfl <;> rfl
  · exact (Nat.le_of_eq h0).trans (Nat.zero_le _)
  · rcases hst with rfl | rfl <;> cases hd
  · rcases hst with rfl | rfl <;> rcases hd with hd | hd <;> cases hd

/-- A record DONE with `n` reply bytes of those stored (R15, R24). -/
def doneRecord (time : PartTime) (n : Nat) (y : Record) : Record :=
  { y with state := .done, completionTime := some time, replyLength := n, payloadChain := [], payload := []
           replyChain := y.replyChain.take (blockCount n), reply := y.reply.take n }

/-- Blocks for fewer bytes are fewer. -/
theorem blockCount_mono {m n : Nat} (h : m ≤ n) : blockCount m ≤ blockCount n := Nat.div_le_div_right (Nat.add_le_add_right h _)

theorem lawful_doneRecord {r : Record} (h : RecordLawful r) (hs : r.state = .active) {n : Nat} (hn : n ≤ r.reply.length)
    (hw : n ≠ 0 → r.replyWanted = true ∧ n ≤ r.replyLimit.getD 0) (time : PartTime) : RecordLawful (doneRecord time n r) := by
  obtain ⟨⟨-, hrc⟩, hl, hm, hp, -, hcause, hrej, -⟩ := h
  simp only [hs] at hrc hcause
  refine ⟨⟨rfl, ?_⟩, hl, hm, hp, rfl, hcause, hrej, fun hne => ⟨rfl, (hw hne).1⟩, ?_, fun _ => ?_, fun hd => ?_⟩
  · change (r.replyChain.take (blockCount n)).length = blockCount n
    rw [List.length_take, hrc, Nat.min_eq_left]
    by_cases h0 : n = 0
    · subst h0; exact Nat.zero_le _
    · obtain ⟨hwant, hle⟩ := hw h0
      rw [Record.replyNeed, if_pos hwant]
      exact blockCount_mono hle
  · by_cases h0 : n = 0
    · subst h0; exact Nat.zero_le _
    · exact (hw h0).2
  · change (r.reply.take n).length = n
    rw [List.length_take, Nat.min_eq_left hn]
  · rcases hd with hd | hd <;> cases hd

/-- A granted record holds its reply need (R2, R12, R27). -/
theorem lawful_activated {r q : Record} (h : RecordLawful r) (hs : r.state = .queued) {bs : List BlockNo}
    (hbs : bs.length = r.replyNeed)
    (hq : q = { r with state := .active, misses := 0, busies := 0, uncertain := false, replyChain := r.replyChain ++ bs }) :
    RecordLawful q := by
  have h0 := replyLength_eq_zero h (by rw [hs]; nofun)
  obtain ⟨⟨hpc, hrc⟩, hl, hm, hp, hc, hcause, hrej, -, hle, -, hpay⟩ := h
  simp only [hs] at hpc hrc hc hcause
  subst hq
  refine ⟨⟨hpc, ?_⟩, hl, hm, hp, hc, hcause, hrej, fun hne => absurd h0 hne, hle, nofun, fun _ => hpay (.inl hs)⟩
  change (r.replyChain ++ bs).length = r.replyNeed
  rw [List.length_append, hrc, hbs, Nat.zero_add]

/-- A record back in its queue holds its payload alone (R17, R92). -/
theorem lawful_requeued {r : Record} (h : RecordLawful r) (hs : r.state = .active) (unsure : Bool) :
    RecordLawful (requeuedRecord (withUncertain unsure r)) := by
  have h0 := replyLength_eq_zero h (by rw [hs]; nofun)
  obtain ⟨⟨hpc, -⟩, hl, hm, hp, hc, hcause, hrej, -, hle, -, hpay⟩ := h
  simp only [hs] at hpc hc hcause
  exact ⟨⟨hpc, rfl⟩, hl, hm, hp, hc, hcause, hrej, fun hne => absurd h0 hne, hle, nofun, fun _ => hpay (.inr hs)⟩

/-! ### Queues in class order (R47, R48, R50) -/

section
variable {p : Ticket → Bool} {q : List Ticket}

/-- Behind the URGENT run of an ordered queue nothing is URGENT. -/
theorem not_urgent_of_mem_dropWhile (hq : q.Pairwise fun a b => p b = true → p a = true) {b : Ticket}
    (hb : b ∈ q.dropWhile p) : p b = false := by
  have hsorted := hq.sublist (List.dropWhile_sublist p)
  cases hd : q.dropWhile p with
  | nil => rw [hd] at hb; cases hb
  | cons a rest =>
    have ha : p a = false := by
      have := List.head?_dropWhile_not p q
      rw [hd] at this
      simpa using this
    rw [hd] at hb hsorted
    rcases List.mem_cons.1 hb with rfl | hb
    · exact ha
    · cases hpb : p b with
      | false => rfl
      | true => rw [(List.pairwise_cons.1 hsorted).1 b hb hpb] at ha; cases ha

/-- A ticket put behind the URGENT run keeps the order. -/
theorem pairwise_behindUrgent (hq : q.Pairwise fun a b => p b = true → p a = true) (t : Ticket) :
    (q.takeWhile p ++ t :: q.dropWhile p).Pairwise fun a b => p b = true → p a = true := by
  refine List.pairwise_append.2 ⟨hq.sublist (List.takeWhile_sublist p), List.pairwise_cons.2 ⟨fun b hb hpb => ?_,
    hq.sublist (List.dropWhile_sublist p)⟩, fun a ha _ _ _ => (List.mem_takeWhile_imp ha)⟩
  rw [not_urgent_of_mem_dropWhile hq hb] at hpb
  cases hpb

theorem perm_behindUrgent (p : Ticket → Bool) (t : Ticket) (q : List Ticket) :
    (q.takeWhile p ++ t :: q.dropWhile p).Perm (t :: q) :=
  List.perm_middle.trans (by rw [List.takeWhile_append_dropWhile])

/-- An URGENT ticket in front keeps the order. -/
theorem pairwise_cons_urgent (hq : q.Pairwise fun a b => p b = true → p a = true) {t : Ticket} (ht : p t = true) :
    (t :: q).Pairwise fun a b => p b = true → p a = true := List.pairwise_cons.2 ⟨fun _ _ _ => ht, hq⟩

/-- A NORMAL ticket at the end keeps the order. -/
theorem pairwise_concat_normal (hq : q.Pairwise fun a b => p b = true → p a = true) {t : Ticket} (ht : p t = false) :
    (q ++ [t]).Pairwise fun a b => p b = true → p a = true := by
  refine List.pairwise_append.2 ⟨hq, List.pairwise_singleton _ _, fun a _ b hb hpb => ?_⟩
  rw [List.mem_singleton.1 hb, ht] at hpb
  cases hpb

end

theorem isUrgent_eq {s : State} {t : Ticket} {r : Record} (hr : s.record? t = some r) : s.isUrgent t = r.urgent := by
  unfold State.isUrgent; rw [hr]

end Sys2Proof.Proofs.OpenRecords
end

section
/-! PROOFS. The laws of the part within a step: records that are written, granted, ended, put back and queued. -/

namespace Sys2Proof.Proofs.OpenMoves

-- One theorem at a time: each elaboration thread takes 1 GiB of the check's memory limit.
set_option Elab.async false

open Sys2Proof Sys2Proof.Machine Sys2Proof.Proofs.Messages Sys2Proof.Proofs.LaneQueues Sys2Proof.Proofs.LaneModes
  Sys2Proof.Proofs.Blocks Sys2Proof.Proofs.HeadSelection Sys2Proof.Proofs.OpenLaws Sys2Proof.Proofs.OpenChanges
  Sys2Proof.Proofs.OpenLanes Sys2Proof.Proofs.OpenRecords

/-- An ACTIVE record is in no queue. -/
theorem not_mem_queue_of_active {g : Gap} {s : State} (h : LawfulBut g s) {t : Ticket} {r : Record}
    (hr : s.record? t = some r) (hs : r.state ≠ .queued) (l : LaneId) : t ∉ (s.lane l).queue := by
  intro ht
  obtain ⟨q, hq, -, hst⟩ := h.entries l t ht
  obtain rfl : q = r := Option.some.inj (hq.symm.trans hr)
  exact hs hst

/-! ### An attempt writes its record (R22, R78, R85, R130) -/

theorem lawfulBut_onRecord {g : Gap} {s : State} (h : LawfulBut g s) {t : Ticket} {r : Record} (hr : s.record? t = some r)
    (hs : r.state = .active) (hg : g ≠ .ended r.lane) (hl : g ≠ .loose t) {f : Record → Record}
    (hf : ∀ y, (f y).ticket = y.ticket) (hq : Touched r (f r)) : LawfulBut g (s.onRecord t f) := by
  have hstate : (f r).state = .active := hq.state.trans hs
  have hqueue : t ∉ (s.lane r.lane).queue := not_mem_queue_of_active h hr (by rw [hs]; nofun) _
  have hactive := active_eq_iff h hr hg
  refine lawfulBut_of_record h ⟨hr, rfl, hf, hq.lane, hq.urgent, hq.lawful hs (h.records t r hr), ?_, fun _ _ => rfl, ?_,
    h.nodup _, fun _ _ => Iff.rfl, iff_of_false hqueue (by rw [hstate]; nofun), h.urgentFirst _, h.completionNodup,
    fun _ _ => Iff.rfl, ?_, h.ports _, h.heads _, fun _ _ => Iff.rfl, fun _ _ => hstate, fun _ => ⟨hg, hactive.2 hs⟩, ?_,
    beside_refl g _, hl, fun _ _ => Iff.rfl, id, .inl⟩
  · exact accounted_of_rewritten h.accounted hr f hf rfl rfl (by rw [chains, chains, hq.payloadChain, hq.replyChain]; exact .rfl)
  · rw [hq.blocks]
    exact Nat.add_le_add_right (h.caps _) _
  · change t ∈ s.table.completion ↔ _
    rw [mem_completion_iff h hr, hq.state]
  · refine waitsKept_of_same h rfl Iff.rfl fun _ hgk => ⟨hgk, head?_of_same rfl fun a ha => ?_⟩
    exact record?_of_rewritten_ne (u := s.onRecord t f) rfl hf fun hat => hqueue (hat ▸ ha)

/-! ### A grant (R12, R27, R76) -/

/-- The head of a lane is a QUEUED record of that lane. -/
theorem queued_of_head? {g : Gap} {s : State} (h : LawfulBut g s) {l : LaneId} {r : Record} (hh : s.head? l = some r) :
    s.record? r.ticket = some r ∧ r.ticket ∈ (s.lane l).queue ∧ r.lane = l ∧ r.state = .queued := by
  have hr := record?_of_head? hh
  have hmem : r.ticket ∈ (s.lane l).queue := by
    unfold State.head? at hh
    cases hq : (s.lane l).queue with
    | nil => rw [hq] at hh; cases hh
    | cons t q =>
      rw [hq] at hh
      rw [(record?_some hh).2]
      exact List.mem_cons_self
  obtain ⟨q, hq, hl, hs⟩ := h.entries l _ hmem
  obtain rfl : q = r := Option.some.inj (hq.symm.trans hr)
  exact ⟨hr, hmem, hl, hs⟩

/-- A lane has a head exactly when its queue is not empty. -/
theorem queue_eq_nil_of_head? {g : Gap} {s : State} (h : LawfulBut g s) {l : LaneId} (hh : s.head? l = none) :
    (s.lane l).queue = [] := by
  cases hq : (s.lane l).queue with
  | nil => rfl
  | cons t q =>
    obtain ⟨r, hr, -⟩ := h.entries l t (by rw [hq]; exact List.mem_cons_self)
    unfold State.head? at hh
    rw [hq] at hh
    exact absurd (hr.symm.trans hh) nofun

/-- The phases of a lane whose head may be granted. -/
def Phase.awaits : Phase → Bool
  | .idle | .waitTime | .waitSpace => true
  | .waitSlot | .sending | .awaitAnswer | .backoff | .resetting => false

theorem awaits_spec {p : Phase} (h : Phase.awaits p = true) : Phase.still p = true ∧ p.carries = false := by
  cases p <;> first | exact ⟨rfl, rfl⟩ | cases h

theorem lawfulBut_activated {g g' : Gap} {s : State} (h : LawfulBut g s) {l : LaneId} {r : Record} (hh : s.head? l = some r)
    (hm : (s.lane l).mode = .pass) (hp : Phase.awaits (s.lane l).phase = true) (hfree : r.replyNeed ≤ s.freeCount)
    (hcap : s.held l + r.replyNeed ≤ (s.lane l).config.cap) (hg : g.portKept l) (hg' : g' ≠ .ended l) (hb : Beside g g' l)
    (hplaced : g' ≠ .loose r.ticket) (hloose : ∀ a, a ≠ r.ticket → (g' = .loose a ↔ g = .loose a)) :
    LawfulBut g' ((s.removeWaiting l).activated l r r.replyNeed) := by
  obtain ⟨hr, hmem, rfl, hs⟩ := queued_of_head? h hh
  obtain ⟨hstill, hcarries⟩ := awaits_spec hp
  have hport := h.ports _ hg
  have hx := hport.still hstill
  have hnone : (s.lane r.lane).active = none := by
    rw [← Option.isNone_iff_eq_none, ← Option.isSome_eq_false_iff, hport.active, hcarries]
  let u := (s.removeWaiting r.lane).activated r.lane r r.replyNeed
  let bs := s.pool.free.take r.replyNeed
  have hbs : bs.length = r.replyNeed := List.length_take.trans (Nat.min_eq_left hfree)
  have hlane : u.lane r.lane = { s.lane r.lane with
      queue := (s.lane r.lane).queue.erase r.ticket, active := some r.ticket, phase := .waitSlot, ready := .data
      busyCount := 0 } := lane_withLane_self _ _ _
  refine lawfulBut_of_record h (u := u) (t := r.ticket) (r := r) (f := fun x =>
      { x with state := .active, misses := 0, busies := 0, uncertain := false, replyChain := x.replyChain ++ bs })
    ⟨hr, rfl, fun _ => rfl, rfl, rfl, lawful_activated (h.records _ r hr) hs hbs rfl, ?_,
    fun m hm => lane_withLane_of_ne _ _ hm, ?_, ?_, fun a ha => ?_, ?_, ?_, h.completionNodup, fun _ _ => Iff.rfl, ?_, fun _ => ?_,
    fun _ => ?_, fun a ha => ?_, fun _ _ => rfl, fun _ => ⟨hg', ?_⟩, ?_, hb, hplaced, hloose, fun he => absurd he hg.2,
    fun he => absurd he hg'⟩
  · rw [show u = (s.removeWaiting r.lane).activate r.lane r.ticket r.replyNeed from (activate_eq_activated _ _ _ _).symm]
    exact accounted_activate (s := s.removeWaiting r.lane) (accounted_of_same h.accounted rfl) hr _ _
  · rw [hlane]
    change s.held r.lane + (r.payloadChain.length + (r.replyChain ++ bs).length) ≤
      (s.lane r.lane).config.cap + (r.payloadChain.length + r.replyChain.length)
    rw [List.length_append, hbs]
    omega
  · rw [hlane]
    exact (h.nodup _).erase _
  · rw [hlane]
    exact List.mem_erase_of_ne ha
  · rw [hlane]
    exact iff_of_false (h.nodup _).not_mem_erase nofun
  · rw [hlane]
    exact (h.urgentFirst _).sublist List.erase_sublist
  · change r.ticket ∈ s.table.completion ↔ _
    rw [mem_completion_iff h hr, hs]
    exact Iff.rfl
  · rw [hlane]
    refine Still.portLawful ⟨hx.ack, hx.backoff, hx.idle, hx.frame, hx.expected, hx.discarding, hx.breaks, hx.recovers⟩ rfl rfl
      (fun hh => ?_) fun hw => ?_
    · exact absurd (hm.symm.trans hh) nofun
    · rcases hw with hw | hw <;> cases hw
  · rw [hlane]
    exact headLawful_of_carries rfl
  · rw [hlane, hnone]
    exact iff_of_false (fun he => ha (Option.some.inj he).symm) nofun
  · rw [hlane]
  · exact waitsKept_of_removed h rfl (by rw [hlane]; nofun)

/-! ### The end of an active message (R15, R16, R29) -/

theorem ended_of_opened {s : State} {l : LaneId} (h : LawfulBut (.opened l) s) {t : Ticket} {r : Record}
    (hr : s.record? t = some r) (hl : (s.lane l).active = some t) {f : Record → Record} {back : List BlockNo}
    (hf : ∀ y, (f y).ticket = y.ticket) (hlane : (f r).lane = r.lane) (hurgent : (f r).urgent = r.urgent)
    (hterm : (f r).state.terminal = true) (hlaw : RecordLawful (f r)) (hblocks : (f r).blocks ≤ r.blocks)
    (hacc : Accounted (s.ended t back f)) : LawfulBut (.ended l) (s.ended t back f) := by
  obtain ⟨q, hq, rfl, hs⟩ := h.active l t nofun hl
  obtain rfl : q = r := Option.some.inj (hq.symm.trans hr)
  have hqueue : t ∉ (s.lane q.lane).queue := not_mem_queue_of_active h hr (by rw [hs]; nofun) _
  have hstate : (f q).state ≠ .queued ∧ (f q).state ≠ .active := by
    constructor <;> intro he <;> rw [he] at hterm <;> cases hterm
  have hnew : t ∉ s.table.completion := by
    rw [mem_completion_iff h hr, hs]
    nofun
  refine lawfulBut_of_record h ⟨hr, rfl, hf, hlane, hurgent, hlaw, hacc, fun _ _ => rfl, ?_, h.nodup _, fun _ _ => Iff.rfl,
    iff_of_false hqueue hstate.1, h.urgentFirst _, ?_, fun a ha => ?_, ?_, fun hg => absurd rfl hg.2,
    fun hg => absurd rfl hg.1.2, fun _ _ => Iff.rfl, fun hg => absurd rfl hg, fun he => absurd he hstate.2, ?_,
    (atLane_opened _).beside (atLane_ended _), nofun, fun _ _ => iff_of_false nofun nofun, nofun, fun _ => .inr hl⟩
  · exact Nat.add_le_add (h.caps _) hblocks
  · exact List.Nodup.append h.completionNodup (List.nodup_singleton t) (List.disjoint_singleton.2 hnew)
  · change a ∈ s.table.completion ++ [t] ↔ _
    simp [ha]
  · change t ∈ s.table.completion ++ [t] ↔ _
    simp [hterm]
  · exact waitsKept_of_same h rfl Iff.rfl fun _ hg => absurd rfl hg.1.2

/-! ### An active message back in its queue (R17, R50, R92) -/

/-- The queue of a lane whose message comes back to the front of its class. -/
def backInQueue (s : State) (l : LaneId) (t : Ticket) (urgent : Bool) : List Ticket :=
  if urgent then t :: (s.lane l).queue else s.afterUrgent t (s.lane l).queue

theorem perm_backInQueue (s : State) (l : LaneId) (t : Ticket) (urgent : Bool) :
    (backInQueue s l t urgent).Perm (t :: (s.lane l).queue) := by
  unfold backInQueue
  split
  · exact .rfl
  · exact perm_behindUrgent _ _ _

theorem ended_of_requeued {s : State} {l : LaneId} (h : LawfulBut (.opened l) s) {t : Ticket} {r : Record}
    (hr : s.record? t = some r) (hl : (s.lane l).active = some t) (unsure : Bool) :
    LawfulBut (.ended l) (((s.returnBlocks r.replyChain).onRecord t fun y => requeuedRecord (withUncertain unsure y)).withLane l
      { s.lane l with queue := backInQueue s l t r.urgent }) := by
  obtain ⟨q, hq, rfl, hs⟩ := h.active l t nofun hl
  obtain rfl : q = r := Option.some.inj (hq.symm.trans hr)
  let f (y : Record) : Record := requeuedRecord (withUncertain unsure y)
  let u := ((s.returnBlocks q.replyChain).onRecord t f).withLane q.lane
    { s.lane q.lane with queue := backInQueue s q.lane t q.urgent }
  have hlane : u.lane q.lane = { s.lane q.lane with queue := backInQueue s q.lane t q.urgent } := lane_withLane_self _ _ _
  have hqueue : t ∉ (s.lane q.lane).queue := not_mem_queue_of_active h hr (by rw [hs]; nofun) _
  have hperm := perm_backInQueue s q.lane t q.urgent
  refine lawfulBut_of_record h (u := u) ⟨hr, rfl, fun _ => rfl, rfl, rfl, lawful_requeued (h.records t q hr) hs unsure, ?_,
    fun m hm => lane_withLane_of_ne _ _ hm, ?_, ?_, fun a ha => ?_, ?_, ?_, h.completionNodup, fun _ _ => Iff.rfl, ?_,
    fun hg => absurd rfl hg.2, fun hg => absurd rfl hg.1.2, fun a _ => by rw [hlane], fun hg => absurd rfl hg, nofun, ?_,
    (atLane_opened _).beside (atLane_ended _), nofun, fun _ _ => iff_of_false nofun nofun, nofun, fun _ => .inr hl⟩
  · refine accounted_of_rewritten h.accounted hr f (fun _ => rfl) rfl rfl ?_
    change ((s.pool.free ++ q.replyChain) ++ (q.payloadChain ++ [])).Perm (s.pool.free ++ (q.payloadChain ++ q.replyChain))
    rw [List.append_nil, List.append_assoc]
    exact List.Perm.append_left _ List.perm_append_comm
  · rw [hlane]
    change s.held q.lane + (q.payloadChain.length + 0) ≤ (s.lane q.lane).config.cap + (q.payloadChain.length + q.replyChain.length)
    have := h.caps q.lane
    omega
  · rw [hlane]
    exact hperm.nodup_iff.2 (List.nodup_cons.2 ⟨hqueue, h.nodup _⟩)
  · rw [hlane]
    change a ∈ backInQueue s q.lane t q.urgent ↔ _
    rw [hperm.mem_iff, List.mem_cons, or_iff_right ha]
  · rw [hlane]
    exact iff_of_true (hperm.mem_iff.2 List.mem_cons_self) rfl
  · rw [hlane]
    change (backInQueue s q.lane t q.urgent).Pairwise _
    unfold backInQueue
    split_ifs with hu
    · exact pairwise_cons_urgent (h.urgentFirst _) ((isUrgent_eq hr).trans hu)
    · exact pairwise_behindUrgent (h.urgentFirst _) t
  · change t ∈ s.table.completion ↔ _
    rw [mem_completion_iff h hr, hs]
    exact Iff.rfl
  · exact waitsKept_of_same h rfl (by rw [hlane]) fun _ hg => absurd rfl hg.1.2

/-! ### A queued record that is cancelled or flushed (R16, R29, R37, R55) -/

theorem unjudged_cancelled {s : State} {r : Record} (h : LawfulBut (.unjudged r.lane) s) (hr : s.record? r.ticket = some r)
    (hs : r.state = .queued) (cause : Cause) (hcause : cause ≠ .rejected) :
    LawfulBut (.unjudged r.lane)
      ((s.ended r.ticket (r.payloadChain ++ r.replyChain) (Record.finish .cancelled cause none s.time)).withLane r.lane
        { s.lane r.lane with queue := (s.lane r.lane).queue.erase r.ticket }) := by
  let f := Record.finish .cancelled cause none s.time
  let u := (s.ended r.ticket (r.payloadChain ++ r.replyChain) f).withLane r.lane
    { s.lane r.lane with queue := (s.lane r.lane).queue.erase r.ticket }
  have hlane : u.lane r.lane = { s.lane r.lane with queue := (s.lane r.lane).queue.erase r.ticket } := lane_withLane_self _ _ _
  have hnew : r.ticket ∉ s.table.completion := by
    rw [mem_completion_iff h hr, hs]
    nofun
  have hport := h.ports r.lane ⟨nofun, nofun⟩
  refine lawfulBut_of_record h (u := u) (t := r.ticket) (r := r) (f := f) ⟨hr, rfl, fun _ => rfl, rfl, rfl,
    lawful_finish (h.records _ r hr) (by rw [hs]; nofun) (.inr rfl) ?_ _, ?_, fun m hm => lane_withLane_of_ne _ _ hm, ?_, ?_,
    fun a ha => ?_, ?_, ?_, ?_, fun a ha => ?_, ?_, fun _ => ?_, fun hg => absurd rfl hg.2, fun a _ => by rw [hlane],
    fun _ ha => ?_, nofun, ?_, beside_refl _ _, nofun, fun _ _ => Iff.rfl, id, .inl⟩
  · rw [beq_eq_false_iff_ne.2 hcause]; rfl
  · refine accounted_of_rewritten h.accounted hr f (fun _ => rfl) rfl rfl ?_
    change ((s.pool.free ++ (r.payloadChain ++ r.replyChain)) ++ []).Perm (s.pool.free ++ (r.payloadChain ++ r.replyChain))
    rw [List.append_nil]
  · rw [hlane]
    exact Nat.add_le_add (h.caps _) (Nat.zero_le _)
  · rw [hlane]
    exact (h.nodup _).erase _
  · rw [hlane]
    exact List.mem_erase_of_ne ha
  · rw [hlane]
    exact iff_of_false (h.nodup _).not_mem_erase nofun
  · rw [hlane]
    exact (h.urgentFirst _).sublist List.erase_sublist
  · exact List.Nodup.append h.completionNodup (List.nodup_singleton _) (List.disjoint_singleton.2 hnew)
  · change a ∈ s.table.completion ++ [r.ticket] ↔ _
    simp [ha]
  · change r.ticket ∈ s.table.completion ++ [r.ticket] ↔ _
    simp [f, Record.finish, RecordState.terminal]
  · rw [hlane]
    exact ⟨hport.active, hport.halt, hport.waits, hport.ack, hport.backoff, hport.sending, hport.frame, hport.expected,
      hport.awaits, hport.discarding, hport.breaking, hport.timers, hport.oneTimer⟩
  · rw [hlane] at ha
    have := (active_eq_iff h hr nofun).1 ha
    exact absurd (hs.symm.trans this) nofun
  · exact waitsKept_of_same h rfl (by rw [hlane]) fun _ hg => absurd rfl hg.2

/-! ### A new record joins its queue (R36, R48) -/

/-- The queue of a lane with a new ticket in its class. -/
def withNew (s : State) (l : LaneId) (t : Ticket) (urgent : Bool) : List Ticket :=
  if urgent then s.afterUrgent t (s.lane l).queue else (s.lane l).queue ++ [t]

theorem perm_withNew (s : State) (l : LaneId) (t : Ticket) (urgent : Bool) :
    (withNew s l t urgent).Perm (t :: (s.lane l).queue) := by
  unfold withNew
  split
  · exact perm_behindUrgent _ _ _
  · exact List.perm_append_singleton t _

theorem insertNew_eq_withNew (s : State) (l : LaneId) (t : Ticket) (urgent : Bool) :
    s.insertNew l t urgent = s.withLane l { s.lane l with queue := withNew s l t urgent } := rfl

theorem unjudged_inserted {s : State} {t : Ticket} (h : LawfulBut (.loose t) s) {r : Record} (hr : s.record? t = some r)
    (hs : r.state = .queued) : LawfulBut (.unjudged r.lane) (s.insertNew r.lane t r.urgent) := by
  rw [insertNew_eq_withNew]
  let u := s.withLane r.lane { s.lane r.lane with queue := withNew s r.lane t r.urgent }
  have hlane : u.lane r.lane = { s.lane r.lane with queue := withNew s r.lane t r.urgent } := lane_withLane_self _ _ _
  have hport := h.ports r.lane ⟨nofun, nofun⟩
  have hperm := perm_withNew s r.lane t r.urgent
  have hnot := h.absent t rfl r.lane
  refine lawfulBut_of_record h (u := u) (t := t) (r := r) (f := fun y => y) ⟨hr, ?_, fun _ => rfl, rfl, rfl, h.records t r hr,
    accounted_of_same h.accounted rfl, fun m hm => lane_withLane_of_ne _ _ hm, ?_, ?_, fun a ha => ?_, ?_, ?_,
    h.completionNodup, fun _ _ => Iff.rfl, mem_completion_iff h hr, fun _ => ?_, fun hg => absurd rfl hg.2,
    fun a _ => by rw [hlane], fun _ ha => ?_, fun ha => ?_, ?_, ⟨fun _ _ _ => ⟨nofun, nofun⟩, fun _ _ _ => ⟨⟨nofun, nofun⟩, nofun⟩,
      fun _ _ => iff_of_false nofun nofun⟩, nofun, fun a ha => iff_of_false nofun fun he => ha (Gap.loose.inj he).symm, nofun,
    nofun⟩
  · change s.table.records = s.table.records.map fun y => if y.ticket = t then y else y
    simp
  · rw [hlane]
    exact Nat.add_le_add_right (h.caps _) _
  · rw [hlane]
    exact hperm.nodup_iff.2 (List.nodup_cons.2 ⟨hnot, h.nodup _⟩)
  · rw [hlane]
    change a ∈ withNew s r.lane t r.urgent ↔ _
    rw [hperm.mem_iff, List.mem_cons, or_iff_right ha]
  · rw [hlane]
    exact iff_of_true (hperm.mem_iff.2 List.mem_cons_self) hs
  · rw [hlane]
    change (withNew s r.lane t r.urgent).Pairwise _
    unfold withNew
    split_ifs with hu
    · exact pairwise_behindUrgent (h.urgentFirst _) t
    · exact pairwise_concat_normal (h.urgentFirst _) ((isUrgent_eq hr).trans (Bool.eq_false_iff.2 hu))
  · rw [hlane]
    exact ⟨hport.active, hport.halt, hport.waits, hport.ack, hport.backoff, hport.sending, hport.frame, hport.expected,
      hport.awaits, hport.discarding, hport.breaking, hport.timers, hport.oneTimer⟩
  · rw [hlane] at ha
    exact (active_eq_iff h hr nofun).1 ha
  · exact absurd (hs.symm.trans ha) nofun
  · exact waitsKept_of_same h rfl (by rw [hlane]) fun _ hg => absurd rfl hg.2

end Sys2Proof.Proofs.OpenMoves
end

section
/-! PROOFS. The grant scan and the selection of a head keep the laws of the part, and the scan leaves nothing that it could
serve. -/

namespace Sys2Proof.Proofs.OpenScan

-- One theorem at a time: each elaboration thread takes 1 GiB of the check's memory limit.
set_option Elab.async false

open Sys2Proof Sys2Proof.Machine Sys2Proof.Proofs.Messages Sys2Proof.Proofs.LaneQueues Sys2Proof.Proofs.LaneModes
  Sys2Proof.Proofs.Blocks Sys2Proof.Proofs.HeadSelection Sys2Proof.Proofs.OpenLaws Sys2Proof.Proofs.OpenChanges
  Sys2Proof.Proofs.OpenLanes Sys2Proof.Proofs.OpenRecords Sys2Proof.Proofs.OpenMoves

/-! ### A grant of the scan (R11, R12) -/

/-- Every lane that waits for space has had its head judged. -/
def Awake (g : Gap) (s : State) : Prop := ∀ l, (s.lane l).phase = .waitSpace → g.headKept l

theorem awake_of_at {g : Gap} {l : LaneId} (hg : AtLane l g) {s : State} (hp : (s.lane l).phase ≠ .waitSpace) :
    Awake g s := fun _ hm => hg.headKept fun he => hp (he ▸ hm)

theorem awake_whole (s : State) : Awake .whole s := fun _ _ => ⟨⟨nofun, nofun⟩, nofun⟩

theorem awake_loose (t : Ticket) (s : State) : Awake (.loose t) s := fun _ _ => ⟨⟨nofun, nofun⟩, nofun⟩

theorem awake_grant {g : Gap} {s : State} (h : Awake g s) (e : WaitEntry) : Awake g (s.grant e) := by
  intro l hp
  rcases lane_grant s e l with he | ⟨-, -, he⟩
  · exact h l (he ▸ hp)
  · exact absurd (he.symm.trans hp) nofun

section
variable {g : Gap} {s : State} (h : LawfulBut g s) (ha : Awake g s) {e : WaitEntry} (he : e ∈ s.pool.waiting)
include h ha he

/-- An entry stands for the head of its lane, which waits in PASS (R8, R13). -/
theorem waiting_spec : (s.lane e.lane).phase = .waitSpace ∧ (s.lane e.lane).mode = .pass ∧ g.headKept e.lane ∧
    ∃ r, s.head? e.lane = some r ∧ r.replyNeed = e.need := by
  have hp := (h.waiting e.lane).1 ((isWaiting_iff s _).2 ⟨e, he, rfl⟩)
  have hg := ha _ hp
  exact ⟨hp, (h.ports _ hg.1).waits (.inr hp), hg, Option.map_eq_some_iff.1 (h.needsHead e he hg)⟩

theorem grant_eq : ∃ r, s.head? e.lane = some r ∧ r.replyNeed = e.need ∧
    s.grant e = (s.removeWaiting e.lane).activated e.lane r r.replyNeed := by
  obtain ⟨-, -, -, r, hr, hn⟩ := waiting_spec h ha he
  exact ⟨r, hr, hn, by rw [grant_of_head hr, activate_eq_activated, hn]⟩

theorem waiting_grant : (s.grant e).pool.waiting = s.pool.waiting.filter fun d => d.lane != e.lane := by
  obtain ⟨r, -, -, hgrant⟩ := grant_eq h ha he
  rw [hgrant]
  rfl

theorem lawfulBut_grant (hfree : e.need ≤ s.freeCount) (hcap : s.capBlocked e = false) : LawfulBut g (s.grant e) := by
  obtain ⟨hp, hm, hg, -⟩ := waiting_spec h ha he
  obtain ⟨r, hr, hn, hgrant⟩ := grant_eq h ha he
  have hloose : g ≠ .loose r.ticket := fun hl => h.absent _ hl _ (queued_of_head? h hr).2.1
  rw [hgrant]
  exact lawfulBut_activated h hr hm (by rw [hp]; rfl) (by rw [hn]; exact hfree)
    (by rw [hn]; exact (not_capBlocked_iff s e).1 hcap) hg.1 hg.1.2 (beside_refl g _) hloose fun _ _ => Iff.rfl

/-- A grant raises the held count of its own lane alone. -/
theorem capBlocked_grant {d : WaitEntry} (hd : d.lane ≠ e.lane) : (s.grant e).capBlocked d = s.capBlocked d := by
  obtain ⟨r, hr, -, hgrant⟩ := grant_eq h ha he
  obtain ⟨hrec, -, hl, -⟩ := queued_of_head? h hr
  have hlane : (s.grant e).lane d.lane = s.lane d.lane :=
    (lane_grant s e d.lane).resolve_right fun hx => hd hx.1.symm
  have hheld : (s.grant e).held d.lane = s.held d.lane := by
    have := held_of_rewritten (s := s) (u := s.grant e) (t := r.ticket) (f := fun x =>
      { x with state := .active, misses := 0, busies := 0, uncertain := false,
               replyChain := x.replyChain ++ s.pool.free.take r.replyNeed })
      (by rw [hgrant]; rfl) h.accounted hrec rfl d.lane
    rwa [if_neg (by rw [hl]; exact hd.symm), if_neg (by rw [hl]; exact hd.symm)] at this
  unfold State.capBlocked
  rw [hlane, hheld]

end

/-! ### The walk of the scan (R10, R11) -/

/-- The entries still to be visited are in the list, one for each lane. -/
structure Ahead (s : State) (es : List WaitEntry) : Prop where
  listed : ∀ e ∈ es, e ∈ s.pool.waiting
  nodup : (es.map WaitEntry.lane).Nodup

theorem Ahead.tail {s : State} {e : WaitEntry} {es : List WaitEntry} (h : Ahead s (e :: es)) : Ahead s es :=
  ⟨fun d hd => h.listed d (.tail _ hd), (List.nodup_cons.1 h.nodup).2⟩

theorem Ahead.ne {s : State} {e : WaitEntry} {es : List WaitEntry} (h : Ahead s (e :: es)) {d : WaitEntry} (hd : d ∈ es) :
    d.lane ≠ e.lane := fun heq => (List.nodup_cons.1 h.nodup).1 (heq ▸ List.mem_map_of_mem hd)

theorem Ahead.grant {g : Gap} {s : State} (hs : LawfulBut g s) (ha : Awake g s) {e : WaitEntry} {es : List WaitEntry}
    (h : Ahead s (e :: es)) : Ahead (s.grant e) es := by
  refine ⟨fun d hd => ?_, h.tail.nodup⟩
  rw [waiting_grant hs ha (h.listed e List.mem_cons_self), List.mem_filter]
  exact ⟨h.listed d (.tail _ hd), bne_iff_ne.2 (h.ne hd)⟩

theorem lawfulBut_scanFrom {g : Gap} {s : State} (h : LawfulBut g s) (ha : Awake g s) {es : List WaitEntry}
    (hes : Ahead s es) : LawfulBut g (s.scanFrom es) := by
  induction es generalizing s with
  | nil => exact h
  | cons e es ih =>
    have he := hes.listed e List.mem_cons_self
    rcases scanFrom_cons_cases s e es with ⟨-, hs⟩ | ⟨hcap, hfree, hs⟩ | ⟨-, -, hs⟩ <;> rw [hs]
    · exact ih h ha hes.tail
    · exact ih (lawfulBut_grant h ha he hfree hcap) (awake_grant ha e) (hes.grant h ha)
    · exact h

theorem ahead_waiting {g : Gap} {s : State} (h : LawfulBut g s) : Ahead s s.pool.waiting := ⟨fun _ he => he, h.waitingNodup⟩

theorem lawfulBut_grantScan {g : Gap} {s : State} (h : LawfulBut g s) (ha : Awake g s) : LawfulBut g s.grantScan :=
  lawfulBut_scanFrom h ha (ahead_waiting h)

theorem whole_grantScan {s : State} (h : LawfulBut .whole s) : LawfulBut .whole s.grantScan :=
  lawfulBut_grantScan h (awake_whole s)

/-! ### What the scan leaves (R10, R11) -/

/-- The oldest entry that is not cap-blocked needs more than the free count. -/
def Exhausted (s : State) (es : List WaitEntry) : Prop :=
  ∀ e, es.find? (fun d => !s.capBlocked d) = some e → s.freeCount < e.need

theorem scanFrom_of_exhausted {s : State} {es : List WaitEntry} (h : Exhausted s es) : s.scanFrom es = s := by
  induction es with
  | nil => rfl
  | cons e es ih =>
    rcases scanFrom_cons_cases s e es with ⟨hcap, hs⟩ | ⟨hcap, hfree, -⟩ | ⟨-, -, hs⟩
    · rw [hs]
      exact ih fun d hd => h d (by rw [List.find?_cons_of_neg (by simp [hcap]), hd])
    · exact absurd (h e (List.find?_cons_of_pos (by simp [hcap]))) (Nat.not_lt.2 hfree)
    · exact hs

/-- Behind entries that are cap-blocked the first other one decides. -/
theorem exhausted_append {s : State} {passed es : List WaitEntry} (hp : ∀ d ∈ passed, s.capBlocked d = true)
    (h : Exhausted s es) : Exhausted s (passed ++ es) := by
  intro e he
  rw [List.find?_append, List.find?_eq_none.2 fun d hd => by simp [hp d hd], Option.none_or] at he
  exact h e he

/-- The walk keeps that what it has passed over is cap-blocked, and ends where it can serve nothing more. -/
theorem exhausted_scanFrom {s : State} (h : LawfulBut .whole s) {passed es : List WaitEntry}
    (hw : s.pool.waiting = passed ++ es) (hp : ∀ d ∈ passed, s.capBlocked d = true) :
    Exhausted (s.scanFrom es) (s.scanFrom es).pool.waiting := by
  induction es generalizing s passed with
  | nil =>
    change Exhausted s s.pool.waiting
    rw [hw]
    exact exhausted_append hp nofun
  | cons e es ih =>
    have he : e ∈ s.pool.waiting := by rw [hw]; simp
    rcases scanFrom_cons_cases s e es with ⟨hcap, hs⟩ | ⟨hcap, hfree, hs⟩ | ⟨hcap, hlacks, hs⟩ <;> rw [hs]
    · refine ih h (passed := passed ++ [e]) (by rw [hw, List.append_assoc]; rfl) fun d hd => ?_
      rcases List.mem_append.1 hd with hd | hd
      · exact hp d hd
      · rw [List.mem_singleton.1 hd]
        exact hcap
    · have ha := awake_whole s
      have hnd := h.waitingNodup
      rw [hw, List.map_append, List.map_cons, List.nodup_append] at hnd
      obtain ⟨-, hafter, hdisjoint⟩ := hnd
      have hbefore (d : WaitEntry) (hd : d ∈ passed) : d.lane ≠ e.lane :=
        hdisjoint _ (List.mem_map_of_mem hd) _ List.mem_cons_self
      have hbehind (d : WaitEntry) (hd : d ∈ es) : d.lane ≠ e.lane := fun heq =>
        (List.nodup_cons.1 hafter).1 (heq ▸ List.mem_map_of_mem hd)
      refine ih (lawfulBut_grant h ha he hfree hcap) (passed := passed) ?_ fun d hd => ?_
      · rw [waiting_grant h ha he, hw, List.filter_append, List.filter_cons_of_neg (by simp),
          List.filter_eq_self.2 fun d hd => bne_iff_ne.2 (hbefore d hd),
          List.filter_eq_self.2 fun d hd => bne_iff_ne.2 (hbehind d hd)]
      · rw [capBlocked_grant h ha he (hbefore d hd)]
        exact hp d hd
    · rw [hw]
      exact exhausted_append hp fun d hd => by
        obtain rfl : e = d := Option.some.inj ((List.find?_cons_of_pos (by simp [hcap])).symm.trans hd)
        exact hlacks

theorem scanFrom_of_blocked {s : State} {passed : List WaitEntry} (hp : ∀ d ∈ passed, s.capBlocked d = true)
    (es : List WaitEntry) : s.scanFrom (passed ++ es) = s.scanFrom es := by
  induction passed with
  | nil => rfl
  | cons d passed ih =>
    rw [List.cons_append, State.scanFrom, if_pos (hp d List.mem_cons_self)]
    exact ih fun a ha => hp a (.tail _ ha)

/-- Settles O47: what the walk leaves is exhausted, so that no unblocked entry in front fits and another scan stops at once; and the
walk reaches the oldest unblocked entry and grants it where it fits. -/
theorem scanServesAllItMay : Obligations.ScanServesAllItMay := by
  intro s hlaw u
  obtain ⟨h, -⟩ := (lawful_iff s).1 hlaw
  have hleft : Exhausted u u.pool.waiting := exhausted_scanFrom h (passed := []) rfl nofun
  refine ⟨fun blocked e younger hw hb he => ?_, fun blocked e younger hw hb he hfree => ?_, scanFrom_of_exhausted hleft⟩
  · refine hleft e (List.find?_eq_some_iff_append.2 ⟨?_, blocked, younger, hw, fun d hd => ?_⟩)
    · rw [(not_capBlocked_iff u e).2 he]; rfl
    · rw [(capBlocked_iff u d).2 (hb d hd)]; rfl
  · have ha := awake_whole s
    have hmem : e ∈ s.pool.waiting := by rw [hw]; simp
    have hcap := (not_capBlocked_iff s e).2 he
    have hscan : u = (s.grant e).scanFrom younger := by
      change s.scanFrom s.pool.waiting = _
      rw [hw, scanFrom_of_blocked (fun d hd => (capBlocked_iff s d).2 (hb d hd)), State.scanFrom,
        if_neg (by rw [hcap]; nofun), if_pos hfree]
    have hyounger : ∀ d ∈ younger, d.lane ≠ e.lane := by
      have hnd := h.waitingNodup
      rw [hw, List.map_append, List.map_cons, List.nodup_append] at hnd
      exact fun d hd heq => (List.nodup_cons.1 hnd.2.1).1 (heq ▸ List.mem_map_of_mem hd)
    obtain ⟨r, hr, -, hgrant⟩ := grant_eq h ha hmem
    have hlane : u.lane e.lane = { s.lane e.lane with
        queue := (s.lane e.lane).queue.erase r.ticket, active := some r.ticket, phase := .waitSlot, ready := .data
        busyCount := 0 } := by
      rw [hscan, (lane_scanFrom (s.grant e) younger e.lane).resolve_right fun ⟨⟨d, hd, hl⟩, _⟩ => hyounger d hd hl, hgrant]
      exact lane_withLane_self _ _ _
    refine ⟨?_, by rw [hlane], by rw [hlane, hr]; rfl⟩
    rw [← Bool.not_eq_true, (whole_grantScan h).waiting, hlane]
    nofun

end Sys2Proof.Proofs.OpenScan
end

section
/-! PROOFS. The judgement of a head closes what a head change and the end of a message leave open. -/

namespace Sys2Proof.Proofs.OpenHeads

-- One theorem at a time: each elaboration thread takes 1 GiB of the check's memory limit.
set_option Elab.async false

open Sys2Proof Sys2Proof.Machine Sys2Proof.Proofs.Messages Sys2Proof.Proofs.LaneQueues Sys2Proof.Proofs.LaneModes
  Sys2Proof.Proofs.Blocks Sys2Proof.Proofs.HeadSelection Sys2Proof.Proofs.OpenLaws Sys2Proof.Proofs.OpenChanges
  Sys2Proof.Proofs.OpenLanes Sys2Proof.Proofs.OpenRecords Sys2Proof.Proofs.OpenMoves Sys2Proof.Proofs.OpenScan

/-- At most 512 reply bytes need at most 16 blocks (R6, R34). -/
theorem replyNeed_le {r : Record} (h : RecordLawful r) : r.replyNeed ≤ 16 := by
  obtain ⟨-, -, hm, -⟩ := h
  unfold Record.replyNeed
  split
  · exact blockCount_mono hm
  · exact Nat.zero_le _

theorem removeWaiting_of_absent {s : State} {l : LaneId} (h : s.isWaiting l = false) : s.removeWaiting l = s := by
  have hw : (s.pool.waiting.filter fun e => e.lane != l) = s.pool.waiting :=
    List.filter_eq_self.2 fun e he => bne_iff_ne.2 ((not_isWaiting_iff s l).1 h e he)
  simp only [State.removeWaiting, State.onPool, hw]

section
variable {s : State} {l : LaneId} (h : LawfulBut (.unjudged l) s)
include h

theorem portLawful_of_unjudged : PortLawful (s.lane l) := h.ports l ⟨nofun, nofun⟩

/-- A lane between attempts in another of the still phases without an active message. -/
theorem portLawful_setPhase (hp : Phase.awaits (s.lane l).phase = true) {p : Phase} (hp' : Phase.awaits p = true)
    (hm : (s.lane l).mode = .pass ∨ p = .idle) : PortLawful { s.lane l with phase := p } := by
  have hport := portLawful_of_unjudged h
  have hx := hport.still (awaits_spec hp).1
  refine Still.portLawful ⟨hx.ack, hx.backoff, hx.idle, hx.frame, hx.expected, hx.discarding, hx.breaks, hx.recovers⟩
    (awaits_spec hp').1 ?_ hport.halt fun hw => hm.resolve_right fun hi => ?_
  · exact hport.active.trans ((awaits_spec hp).2.trans (awaits_spec hp').2.symm)
  · change p = _ ∨ p = _ at hw
    rw [hi] at hw
    simp at hw

/-- The head of a lane without entry becomes ACTIVE. -/
theorem whole_activate {r : Record} (hr : s.head? l = some r) (hm : (s.lane l).mode = .pass)
    (hp : Phase.awaits (s.lane l).phase = true) (hfree : r.replyNeed ≤ s.freeCount)
    (hcap : s.held l + r.replyNeed ≤ (s.lane l).config.cap) :
    LawfulBut .whole ((s.removeWaiting l).activate l r.ticket r.replyNeed) := by
  rw [activate_eq_activated]
  exact lawfulBut_activated h hr hm hp hfree hcap ⟨nofun, nofun⟩ nofun ((atLane_unjudged l).beside (atLane_whole l)) nofun
    fun _ _ => iff_of_false nofun nofun

/-- A lane in PASS that is not busy and has no entry judges its head (R53, R76). -/
theorem whole_judgeHead (hm : (s.lane l).mode = .pass) (hp : (s.lane l).phase = .idle ∨ (s.lane l).phase = .waitTime) :
    LawfulBut .whole (s.judgeHead l) := by
  have hawaits : Phase.awaits (s.lane l).phase = true := by rcases hp with e | e <;> rw [e] <;> rfl
  have hnot : (s.lane l).phase ≠ .waitSpace := by rcases hp with e | e <;> rw [e] <;> nofun
  have habsent : s.isWaiting l = false := by rw [← Bool.not_eq_true, h.waiting]; exact hnot
  cases hh : s.head? l with
  | none =>
    rw [judgeHead_of_none hh]
    exact judged_withLane h rfl rfl rfl hnot nofun (portLawful_setPhase h hawaits rfl (.inr rfl))
      ⟨fun hw => by simp at hw, fun _ _ => queue_eq_nil_of_head? h hh⟩
  | some r =>
    cases ht : released s.time r.releaseTime with
    | false =>
      rw [judgeHead_of_early hh ht]
      refine judged_withLane h rfl rfl rfl hnot nofun (portLawful_setPhase h hawaits rfl (.inl hm)) ⟨fun _ hnil => ?_, nofun⟩
      rw [head?_of_nil hnil] at hh
      cases hh
    | true =>
      rw [judgeHead_of_due hh ht]
      have hactivate := whole_activate h hh hm hawaits
      rw [removeWaiting_of_absent habsent] at hactivate
      rcases spaceStep_cases s l r with ⟨h0 | ⟨-, hfree, hcap⟩, e⟩ | ⟨hne, u, rfl, hu⟩
      · rw [e]
        exact hactivate (by rw [h0]; exact Nat.zero_le _) (by rw [h0]; exact h.caps l)
      · rw [e]
        exact hactivate hfree hcap
      · have hneed := replyNeed_le (h.records _ r (queued_of_head? h hh).1)
        have hscan := whole_grantScan (whole_joined h hh hm hp ⟨Nat.one_le_iff_ne_zero.2 hne, hneed⟩)
        rcases hu with ⟨-, e⟩ | ⟨-, e⟩ <;> rw [e]
        · exact lawfulBut_raise hscan _
        · exact hscan

/-- A lane in WAIT_SPACE whose head has changed (R13, R14). -/
theorem whole_updateNeed (hm : (s.lane l).mode = .pass) (hp : (s.lane l).phase = .waitSpace) :
    LawfulBut .whole (s.updateNeed l) := by
  have hawaits : Phase.awaits (s.lane l).phase = true := by rw [hp]; rfl
  have left {p : Phase} (hport : PortLawful { s.lane l with phase := p }) (hhead : HeadLawful { s.lane l with phase := p })
      (hne : p ≠ .waitSpace) : LawfulBut .whole ((s.removeWaiting l).setPhase l p) :=
    whole_removed h (.inr rfl) rfl rfl rfl hne hport hhead
  rcases updateNeed_cases s l with ⟨hh, e⟩ | ⟨r, hh, ⟨-, e⟩ | ⟨-, h0, e⟩ | ⟨-, hne, e⟩⟩ <;> rw [e] <;> refine whole_grantScan ?_
  · exact left (portLawful_setPhase h hawaits rfl (.inr rfl)) ⟨fun hw => by simp at hw, fun _ _ => queue_eq_nil_of_head? h hh⟩
      nofun
  · refine left (portLawful_setPhase h hawaits rfl (.inl hm)) ⟨fun _ hnil => ?_, nofun⟩ nofun
    rw [head?_of_nil hnil] at hh
    cases hh
  · have := whole_activate h hh hm hawaits (by rw [h0]; exact Nat.zero_le _) (by rw [h0]; exact h.caps l)
    rwa [h0] at this
  · exact whole_setNeed h hh hp ⟨Nat.one_le_iff_ne_zero.2 hne, replyNeed_le (h.records _ r (queued_of_head? h hh).1)⟩

/-- The re-evaluation at a head change (R51). -/
theorem whole_headChanged : LawfulBut .whole (s.headChanged l) := by
  rcases headChanged_cases s l with ⟨hm, hp, e⟩ | ⟨hm, hp, e⟩ | ⟨hdeaf, e⟩ <;> rw [e]
  · exact whole_judgeHead h hm hp
  · exact whole_updateNeed h hm hp
  · have hport := portLawful_of_unjudged h
    have hnot : ¬((s.lane l).phase = .waitTime ∨ (s.lane l).phase = .waitSpace) := fun hw => hdeaf ⟨hport.waits hw, .inr hw⟩
    refine whole_of_unjudged h ⟨fun hw => absurd hw hnot, fun hm hp => absurd ⟨hm, .inl hp⟩ hdeaf⟩ fun e he hl => ?_
    exact absurd (.inr ((h.waiting l).1 ((isWaiting_iff s l).2 ⟨e, he, hl⟩))) hnot

/-- A lane that stops being busy judges its head in PASS, and has none to judge otherwise (R75). -/
theorem whole_comesToRest (hp : (s.lane l).phase = .idle) (t : Ticket) : LawfulBut .whole (s.comesToRest l t) := by
  unfold State.comesToRest
  split_ifs with hm
  · exact whole_judgeHead h hm (.inl hp)
  · refine lawfulBut_raise (whole_of_unjudged h (headLawful_of_rest hp hm) fun e he hl => ?_) _
    have := (h.waiting l).1 ((isWaiting_iff s l).2 ⟨e, he, hl⟩)
    exact absurd (hp.symm.trans this) nofun

end

/-! ### The end of an active message, up to the rest of its lane (R75, R86 to R89, R92) -/

/-- Events raised one after the other. -/
def raised (es : List Event) (s : State) : State := es.foldl (fun u e => u.raise e) s

theorem lawfulBut_raised {g : Gap} {s : State} (h : LawfulBut g s) (es : List Event) : LawfulBut g (raised es s) := by
  induction es generalizing s with
  | nil => exact h
  | cons e es ih => exact ih (lawfulBut_raise h e)

@[simp] theorem lane_raised (es : List Event) (s : State) (l : LaneId) : (raised es s).lane l = s.lane l := by
  induction es generalizing s with
  | nil => rfl
  | cons e es ih => exact ih (s.raise e)

/-- The lane of an ended message, after the scan that follows, comes to rest. -/
theorem whole_rested {s : State} {l : LaneId} (h : LawfulBut (.ended l) s) {x : Lane} (hx : Still x)
    (hs : (s.lane l).phase ≠ .waitSpace) (hq : x.queue = (s.grantScan.lane l).queue)
    (hc : x.config.cap = (s.grantScan.lane l).config.cap) (ha : x.active = none) (hp : x.phase = .idle) (es : List Event)
    (t : Ticket) : LawfulBut .whole ((raised es (s.grantScan.withLane l x)).comesToRest l t) := by
  have hscan := lawfulBut_grantScan h (awake_of_at (atLane_ended l) hs)
  have habsent : s.isWaiting l = false := by rw [← Bool.not_eq_true, h.waiting]; exact hs
  have hlane := lane_grantScan_of_not_waiting habsent
  refine whole_comesToRest (lawfulBut_raised (unjudged_of_ended hscan hx hq hc (by rw [hlane]; exact hs) ha hp) es) ?_ t
  rw [lane_raised, lane_withLane_self]
  exact hp

end Sys2Proof.Proofs.OpenHeads
end

section
/-! PROOFS. The outcomes of an attempt, from the lane whose attempt is over to a whole state. -/

namespace Sys2Proof.Proofs.OpenOutcomes

-- One theorem at a time: each elaboration thread takes 1 GiB of the check's memory limit.
set_option Elab.async false

open Sys2Proof Sys2Proof.Machine Sys2Proof.Proofs.Messages Sys2Proof.Proofs.LaneQueues Sys2Proof.Proofs.LaneModes
  Sys2Proof.Proofs.Blocks Sys2Proof.Proofs.HeadSelection Sys2Proof.Proofs.OpenLaws Sys2Proof.Proofs.OpenChanges
  Sys2Proof.Proofs.OpenLanes Sys2Proof.Proofs.OpenRecords Sys2Proof.Proofs.OpenMoves Sys2Proof.Proofs.OpenScan
  Sys2Proof.Proofs.OpenHeads

/-! ### A lane whose attempt is over -/

/-- The lane's attempt at message `t` is over and its outcome not taken: nothing is sent or expected any more. -/
structure AttemptOver (x : Lane) (t : Ticket) : Prop where
  active : x.active = some t
  still : Still x
  phase : x.phase ≠ .waitSpace
  mode : x.mode ≠ .halt

theorem still_of_port {x y : Lane} (h : Still x) (ha : y.ackTimer = x.ackTimer) (hb : y.backoffTimer = x.backoffTimer)
    (hp : y.port = x.port) : Still y := by
  obtain ⟨h1, h2, h3, h4, h5, h6, h7, h8⟩ := h
  exact ⟨ha.trans h1, hb.trans h2, hp ▸ h3, hp ▸ h4, hp ▸ h5, hp ▸ h6, hp ▸ h7, hp ▸ h8⟩

/-- The lane tries the message again from WAIT_SLOT. -/
theorem AttemptOver.portLawful_waitSlot {x y : Lane} {t : Ticket} (h : AttemptOver x t) (hp : y.phase = .waitSlot)
    (ha : y.active = x.active) (hm : y.mode = x.mode) (hs : Still y) : PortLawful y := by
  refine hs.portLawful (by rw [hp]; rfl) ?_ (fun hh => absurd (hm ▸ hh) h.mode) fun hw => ?_
  · rw [ha, h.active, hp]; rfl
  · rw [hp] at hw
    simp at hw

/-- The lane waits for its backoff. -/
theorem AttemptOver.portLawful_backoff {x : Lane} {t : Ticket} (h : AttemptOver x t) (n : Nat) :
    PortLawful { x with phase := .backoff, backoffTimer := some n } := by
  obtain ⟨ha, ⟨hack, -, htx, hframe, hexp, hdis, hbr, hrec⟩, -, hm⟩ := h
  refine ⟨?_, fun hh => absurd hh hm, fun hw => ?_, fun hh => ?_, rfl, ?_, hframe, fun he => ?_, nofun, iff_of_false hdis nofun, ?_, ?_, ?_⟩
  · change x.active.isSome = true
    rw [ha]; rfl
  · simp at hw
  · change x.ackTimer.isSome = true at hh
    rw [hack] at hh
    cases hh
  · change x.port.tx.isSending = false
    rw [htx]; rfl
  · exact absurd (hexp.symm.trans he) nofun
  · change x.port.tx = _ ↔ x.port.breakTimer.isSome = true
    rw [htx, hbr]; simp
  · change (x.port.breakTimer.isSome || x.port.recoveryTimer.isSome) = false
    rw [hbr, hrec]; rfl
  · change ¬(x.port.breakTimer.isSome = true ∧ _)
    rw [hbr]; simp

section
variable {s : State} {l : LaneId} {t : Ticket} {r : Record} (h : LawfulBut (.opened l) s) (hr : s.record? t = some r)
include h hr

/-- The active record of a lane is ACTIVE and its own. -/
theorem active_of_opened (ha : (s.lane l).active = some t) : r.lane = l ∧ r.state = .active := by
  obtain ⟨q, hq, hl, hs⟩ := h.active l t nofun ha
  obtain rfl : q = r := Option.some.inj (hq.symm.trans hr)
  exact ⟨hl, hs⟩

/-- An attempt's outcome is first written into its record. -/
theorem opened_onRecord (ha : (s.lane l).active = some t) {f : Record → Record} (hf : ∀ y, (f y).ticket = y.ticket)
    (hq : Touched r (f r)) : LawfulBut (.opened l) (s.onRecord t f) ∧ (s.onRecord t f).record? t = some (f r) :=
  ⟨lawfulBut_onRecord h hr (active_of_opened h hr ha).2 nofun nofun hf hq, record?_onRecord_self hr f hf⟩

/-- An active record that ends FAILED or CANCELLED (R16, R29). -/
theorem ended_endRecord (ha : (s.lane l).active = some t) {st : RecordState} (hst : st = .failed ∨ st = .cancelled)
    {cause : Cause} {reject : Option Byte} (hrej : reject.isSome = (cause == .rejected)) :
    LawfulBut (.ended l) (s.endRecord t st cause reject) := by
  obtain ⟨-, hs⟩ := active_of_opened h hr ha
  have hacc := accounted_endRecord h.accounted t st cause reject
  rw [endRecord_eq_ended hr] at hacc ⊢
  refine ended_of_opened h hr ha (fun _ => rfl) rfl rfl ?_ (lawful_finish (h.records t r hr) (by rw [hs]; nofun) hst hrej _)
    (Nat.zero_le _) hacc
  rcases hst with rfl | rfl <;> rfl

omit h in
theorem lane_endRecord (st : RecordState) (cause : Cause) (reject : Option Byte) (m : LaneId) :
    (s.endRecord t st cause reject).lane m = s.lane m := by
  rw [endRecord_eq_ended hr]
  rfl

/-- After the scan that follows the end of its message the lane comes to rest as it was left. -/
theorem whole_endRecord (ha : (s.lane l).active = some t) (hp : (s.lane l).phase ≠ .waitSpace) {st : RecordState}
    (hst : st = .failed ∨ st = .cancelled) {cause : Cause} {reject : Option Byte}
    (hrej : reject.isSome = (cause == .rejected)) {x : Lane} (hx : Still x) (hq : x.queue = (s.lane l).queue)
    (hc : x.config.cap = (s.lane l).config.cap) (hnone : x.active = none) (hidle : x.phase = .idle) (es : List Event) :
    LawfulBut .whole ((raised es ((s.endRecord t st cause reject).grantScan.withLane l x)).comesToRest l t) ∧
      (s.endRecord t st cause reject).grantScan.lane l = s.lane l := by
  have hended := ended_endRecord h hr ha hst hrej
  have hsame := lane_endRecord hr st cause reject l
  have hp' : ((s.endRecord t st cause reject).lane l).phase ≠ .waitSpace := by rw [hsame]; exact hp
  have hlane := (lane_grantScan_of_not_waiting (by rw [← Bool.not_eq_true, hended.waiting]; exact hp')).trans hsame
  exact ⟨whole_rested hended hx hp' (by rw [hlane, hq]) (by rw [hlane, hc]) hnone hidle es t, hlane⟩

/-- The end of an active message by its mark (R88, R89). The backoff timer may still run. -/
theorem whole_cancelActive (ha : (s.lane l).active = some t) (hp : (s.lane l).phase ≠ .waitSpace)
    (hx : Still { s.lane l with backoffTimer := none }) (unsure : Bool) : LawfulBut .whole (s.cancelActive l t unsure) := by
  have hlane := (whole_endRecord h hr ha hp (.inr rfl) (cause := .byHost) (reject := none) rfl
    (x := { s.lane l with backoffTimer := none, active := none, phase := .idle }) (still_of_port hx rfl rfl rfl) rfl rfl rfl rfl
    []).2
  unfold State.cancelActive
  rw [stopBusy_eq]
  simp only [State.markResync, onLane_eq_withLane, lane_withLane_self, withLane_withLane, hlane]
  exact (whole_endRecord h hr ha hp (.inr rfl) rfl (x := { s.lane l with
    resync := (s.lane l).resync || unsure, backoffTimer := none, active := none, phase := .idle }) (still_of_port hx rfl rfl rfl)
    rfl rfl rfl rfl []).1

/-- The failure of an active message (R87). -/
theorem whole_failRecord (hover : AttemptOver (s.lane l) t) {cause : Cause} {reject : Option Byte}
    (hrej : reject.isSome = (cause == .rejected)) (unsure : Bool) :
    LawfulBut .whole (s.failRecord l t cause reject unsure) := by
  have hlane := (whole_endRecord h hr hover.active hover.phase (.inl rfl) hrej
    (x := { s.lane l with active := none, phase := .idle }) (still_of_port hover.still rfl rfl rfl) rfl rfl rfl rfl []).2
  have rested {x : Lane} (hq : x.queue = (s.lane l).queue) (hc : x.config.cap = (s.lane l).config.cap)
      (hx : Still x) (hnone : x.active = none) (hidle : x.phase = .idle) (es : List Event) :=
    (whole_endRecord h hr hover.active hover.phase (.inl rfl) hrej hx hq hc hnone hidle es).1
  have hraise (u : State) (x : Lane) (e : Event) : (u.withLane l x).raise e = (u.raise e).withLane l x := rfl
  unfold State.failRecord
  simp only [stopBusy_eq, State.markResync, State.onCounters, State.setMode, onLane_eq_withLane, lane_withLane_self,
    withLane_withLane, lane_raise, hlane]
  split_ifs
  · simp only [hraise, lane_withLane_self, withLane_withLane]
    refine rested ?_ ?_ ?_ ?_ ?_ [_, _]
    exacts [rfl, rfl, still_of_port hover.still rfl rfl rfl, rfl, rfl]
  · simp only [hraise, lane_withLane_self, withLane_withLane]
    refine rested ?_ ?_ ?_ ?_ ?_ [_]
    exacts [rfl, rfl, still_of_port hover.still rfl rfl rfl, rfl, rfl]

omit h in
/-- A completed record, field by field (R15, R24). -/
theorem completeRecord_eq_ended (n : Nat) :
    s.completeRecord t n =
      s.ended t (r.payloadChain ++ r.replyChain.drop (blockCount n)) (doneRecord s.time n) := by
  unfold State.completeRecord
  rw [hr]
  rfl

/-- The completion of an active message with `n` of its stored reply bytes (R80). -/
theorem whole_completeActive (hover : AttemptOver (s.lane l) t) {n : Nat} (hn : n ≤ r.reply.length)
    (hw : n ≠ 0 → r.replyWanted = true ∧ n ≤ r.replyLimit.getD 0) : LawfulBut .whole (s.completeActive l t r n) := by
  obtain ⟨-, hs⟩ := active_of_opened h hr hover.active
  have hlaw := h.records t r hr
  have hblocks : (doneRecord s.time n r).blocks ≤ r.blocks := by
    change 0 + (r.replyChain.take _).length ≤ r.payloadChain.length + r.replyChain.length
    rw [List.length_take]
    omega
  have hended : LawfulBut (.ended l) (s.completeRecord t n) := by
    have hacc := accounted_completeRecord h.accounted t n
    rw [completeRecord_eq_ended hr] at hacc ⊢
    exact ended_of_opened h hr hover.active (fun _ => rfl) rfl rfl rfl (lawful_doneRecord hlaw hs hn hw _) hblocks hacc
  have hsame : (s.completeRecord t n).lane l = s.lane l := by rw [completeRecord_eq_ended hr]; rfl
  have hp : ((s.completeRecord t n).lane l).phase ≠ .waitSpace := by rw [hsame]; exact hover.phase
  have hlane := (lane_grantScan_of_not_waiting (by rw [← Bool.not_eq_true, hended.waiting]; exact hp)).trans hsame
  have rested {x : Lane} (hq : x.queue = (s.lane l).queue) (hc : x.config.cap = (s.lane l).config.cap)
      (hx : Still x) (hnone : x.active = none) (hidle : x.phase = .idle) (es : List Event) :=
    whole_rested hended hx hp (hq.trans (by rw [hlane])) (hc.trans (by rw [hlane])) hnone hidle es t
  have hraise (u : State) (x : Lane) (e : Event) : (u.withLane l x).raise e = (u.raise e).withLane l x := rfl
  unfold State.completeActive
  simp only [stopBusy_eq, State.onCounters, State.setMode, State.raiseLane, onLane_eq_withLane]
  split
  · simp only [hraise, lane_withLane_self, withLane_withLane, hlane]
    refine rested ?_ ?_ ?_ ?_ ?_ [_, _]
    exacts [rfl, rfl, still_of_port hover.still rfl rfl rfl, rfl, rfl]
  · simp only [hraise, lane_withLane_self, withLane_withLane, hlane]
    refine rested ?_ ?_ ?_ ?_ ?_ [_]
    exacts [rfl, rfl, still_of_port hover.still rfl rfl rfl, rfl, rfl]

/-- A miss: the mark, the retry limit, or another attempt (R85, R87, R89). -/
theorem whole_takeMiss (hover : AttemptOver (s.lane l) t) (reply : Bool) : LawfulBut .whole (s.takeMiss l reply) := by
  obtain ⟨u, hu, hcases⟩ := takeMiss_cases hover.active hr reply
  let x : Lane := { s.lane l with counters := { (s.lane l).counters with missesTotal := satInc 65535 (s.lane l).counters.missesTotal } }
  let f (y : Record) : Record := { y with misses := satInc 255 y.misses, uncertain := true }
  have hlane : u.lane l = x := by rw [hu]; exact lane_withLane_self s l x
  obtain ⟨hopened, hr'⟩ : LawfulBut (.opened l) u ∧ u.record? t = some (f r) := by
    rw [hu]
    refine opened_onRecord (s := s.withLane l x) (lawfulBut_sameView h rfl) hr ?_ (f := f) (fun _ => rfl)
      ⟨rfl, rfl, rfl, rfl, rfl, rfl, rfl, rfl, rfl, rfl, rfl, rfl, rfl⟩
    rw [lane_withLane_self]
    exact hover.active
  have hover' : AttemptOver (u.lane l) t := by
    rw [hlane]
    exact ⟨hover.active, still_of_port hover.still rfl rfl rfl, hover.phase, hover.mode⟩
  rcases hcases with ⟨-, e⟩ | ⟨-, -, e⟩ | ⟨-, -, e⟩ <;> rw [e]
  · exact whole_cancelActive hopened hr' hover'.active hover'.phase
      ⟨hover'.still.ack, rfl, hover'.still.idle, hover'.still.frame, hover'.still.expected, hover'.still.discarding,
        hover'.still.breaks, hover'.still.recovers⟩ true
  · exact whole_failRecord hopened hr' hover' rfl true
  · rw [onLane_eq_withLane]
    refine whole_of_opened hopened ?_ ?_ ?_ hover'.phase ?_ ?_ ?_
    · rfl
    · rfl
    · rfl
    · nofun
    · exact hover'.portLawful_waitSlot rfl rfl rfl (still_of_port hover'.still rfl rfl rfl)
    · exact headLawful_of_carries rfl

/-- A BUSY: the mark, the busy limit, or the backoff (R81, R89). -/
theorem whole_takeBusy (hover : AttemptOver (s.lane l) t) : LawfulBut .whole (s.takeBusy l t r) := by
  let x : Lane :=
    { s.lane l with counters := { (s.lane l).counters with busiesTotal := satInc 65535 (s.lane l).counters.busiesTotal }
                    busyCount := (s.lane l).busyCount + 1 }
  let f (y : Record) : Record := { y with busies := satInc 255 y.busies, uncertain := false }
  let u := (s.withLane l x).onRecord t f
  have hlane : u.lane l = x := lane_withLane_self s l x
  obtain ⟨hopened, hr'⟩ : LawfulBut (.opened l) u ∧ u.record? t = some (f r) := by
    refine opened_onRecord (s := s.withLane l x) (lawfulBut_sameView h rfl) hr ?_ (f := f) (fun _ => rfl)
      ⟨rfl, rfl, rfl, rfl, rfl, rfl, rfl, rfl, rfl, rfl, rfl, rfl, rfl⟩
    rw [lane_withLane_self]
    exact hover.active
  have hover' : AttemptOver (u.lane l) t := by
    rw [hlane]
    exact ⟨hover.active, still_of_port hover.still rfl rfl rfl, hover.phase, hover.mode⟩
  have hcounted : ((s.onCounters l fun c => { c with busiesTotal := satInc 65535 c.busiesTotal }).onRecord t f).onLane l
      (fun x => { x with busyCount := x.busyCount + 1 }) = u := by
    simp only [State.onCounters, onLane_eq_withLane, lane_onRecord, lane_withLane_self]
    change ((s.onRecord t f).withLane l _).withLane l _ = _
    rw [withLane_withLane]
    rfl
  unfold State.takeBusy
  simp only [show (fun x : Record => { x with busies := satInc 255 x.busies, uncertain := false }) = f from rfl, hcounted]
  split_ifs
  · exact whole_cancelActive hopened hr' hover'.active hover'.phase
      ⟨hover'.still.ack, rfl, hover'.still.idle, hover'.still.frame, hover'.still.expected, hover'.still.discarding,
        hover'.still.breaks, hover'.still.recovers⟩ false
  · exact whole_failRecord hopened hr' hover' rfl false
  · rw [onLane_eq_withLane]
    refine whole_of_opened hopened ?_ ?_ ?_ hover'.phase ?_ (hover'.portLawful_backoff _) (headLawful_of_carries rfl)
    · rfl
    · rfl
    · rfl
    · nofun

/-- A REJECT fails the message (R83). -/
theorem whole_takeReject (hover : AttemptOver (s.lane l) t) (code : Byte) : LawfulBut .whole (s.takeReject l t code) := by
  obtain ⟨hopened, hr'⟩ := opened_onRecord h hr hover.active (f := fun x => { x with uncertain := false }) (fun _ => rfl)
    ⟨rfl, rfl, rfl, rfl, rfl, rfl, rfl, rfl, rfl, rfl, rfl, rfl, rfl⟩
  exact whole_failRecord hopened hr' hover rfl false

/-- A REPLY beyond the limit fails the message (R84). -/
theorem whole_takeOversize (hover : AttemptOver (s.lane l) t) : LawfulBut .whole (s.takeOversize l t r) := by
  unfold State.takeOversize
  rw [onLane_eq_withLane]
  refine whole_failRecord (lawfulBut_sameView h ?_) hr ?_ rfl _
  · rfl
  · rw [lane_withLane_self]
    exact ⟨hover.active, still_of_port hover.still rfl rfl rfl, hover.phase, hover.mode⟩

end

end Sys2Proof.Proofs.OpenOutcomes
end

section
/-! PROOFS. The events of a Drop Port and of a lane's timers keep the laws of the part. -/

namespace Sys2Proof.Proofs.OpenEvents

-- One theorem at a time: each elaboration thread takes 1 GiB of the check's memory limit.
set_option Elab.async false

open Sys2Proof Sys2Proof.Machine Sys2Proof.Proofs.Messages Sys2Proof.Proofs.LaneQueues Sys2Proof.Proofs.LaneModes
  Sys2Proof.Proofs.DeliveryCycle Sys2Proof.Proofs.DropLine
  Sys2Proof.Proofs.Blocks Sys2Proof.Proofs.HeadSelection Sys2Proof.Proofs.OpenLaws Sys2Proof.Proofs.OpenChanges
  Sys2Proof.Proofs.OpenLanes Sys2Proof.Proofs.OpenRecords Sys2Proof.Proofs.OpenMoves Sys2Proof.Proofs.OpenScan
  Sys2Proof.Proofs.OpenHeads Sys2Proof.Proofs.OpenOutcomes

/-! ### Lanes from one phase to the next -/

section
variable {x : Lane} (h : PortLawful x)
include h

/-- In a phase that carries a message the lane has one and is not in HALT. -/
theorem active_of_carries (hp : x.phase.carries = true) : (∃ t, x.active = some t) ∧ x.mode ≠ .halt := by
  have ha : x.active.isSome = true := h.active.trans hp
  refine ⟨Option.isSome_iff_exists.1 ha, fun hm => ?_⟩
  rw [h.halt hm] at ha
  cases ha

/-- In AWAIT_ANSWER nothing is sent and only the ack timer may run. -/
theorem awaiting_spec (hp : x.phase = .awaitAnswer) :
    x.backoffTimer = none ∧ x.port.tx = .idle ∧ x.port.breakTimer = none ∧ x.port.recoveryTimer = none := by
  obtain ⟨hb, hr, htx, -⟩ := h.noReset (by rw [hp]; nofun)
  have hback : x.backoffTimer.isSome = false := by rw [h.backoff, hp]; rfl
  have hsend := h.sending
  rw [hp] at hsend
  exact ⟨by simpa using hback, tx_eq_idle hsend htx, hb, hr⟩

/-- The receiver takes the next part of a frame, and with it the ack timer may change. -/
theorem portLawful_receives {rx : Receiver} {ack : Option Nat} (hframe : rx.frameLawful = true)
    (hx : x.port.rx ≠ .discarding) (hrx : rx ≠ .discarding) (hack : ack.isSome = true → x.phase = .awaitAnswer)
    (hexp : rx.isExpected = true → x.phase = .awaitAnswer ∧ ack = none)
    (hawait : x.phase = .awaitAnswer → ack.isSome = true ∨ rx.isExpected = true) :
    PortLawful { x with ackTimer := ack, port := { x.port with rx := rx } } :=
  ⟨h.active, h.halt, h.waits, hack, h.backoff, h.sending, hframe, hexp, hawait,
    iff_of_false hrx fun hp => hx (h.discarding.2 hp), h.breaking, h.timers, h.oneTimer⟩

/-- Outside an expected frame the receiver takes the next part of a frame that is not expected either. -/
theorem portLawful_hears {rx : Receiver} (hframe : rx.frameLawful = true) (hx : x.port.rx ≠ .discarding)
    (hx' : x.port.rx.isExpected = false) (hrx : rx ≠ .discarding) (hexp : rx.isExpected = false) :
    PortLawful { x with port := { x.port with rx := rx } } :=
  portLawful_receives h (ack := x.ackTimer) hframe hx hrx h.ack (fun he => absurd (hexp.symm.trans he) nofun) fun hp =>
    .inl ((h.awaits hp).resolve_right fun he => absurd (hx'.symm.trans he) nofun)

theorem portLawful_sending (hp : x.phase = .waitSlot) (r : Record) : PortLawful (startedLane x r) := by
  have hx := h.still (by rw [hp]; rfl)
  refine ⟨?_, h.halt, ?_, ?_, ?_, rfl, h.frame, ?_, nofun, iff_of_false hx.discarding nofun, ?_, ?_, h.oneTimer⟩
  · have := h.active
    rw [hp] at this
    exact this
  · simp [startedLane]
  · simp [startedLane, hx.ack]
  · simp [startedLane, hx.backoff]
  · simp [startedLane, hx.expected]
  · simp [startedLane, hx.breaks]
  · simp [startedLane, hx.breaks, hx.recovers]

theorem portLawful_sent (hp : x.phase = .sending) (n : Nat) :
    PortLawful { x with phase := .awaitAnswer, ackTimer := some n, port := { x.port with tx := .idle } } := by
  obtain ⟨hb, hr, -, hrx⟩ := h.noReset (by rw [hp]; nofun)
  have hback := h.backoff
  rw [hp] at hback
  have hexp : ¬x.port.rx.isExpected = true := fun he => absurd (hp.symm.trans (h.expected he).1) nofun
  refine ⟨?_, h.halt, ?_, fun _ => rfl, hback, rfl, h.frame, fun he => absurd he hexp, fun _ => .inl rfl,
    iff_of_false hrx nofun, ?_, ?_, h.oneTimer⟩
  · have := h.active
    rw [hp] at this
    exact this
  · simp
  · simp [hb]
  · simp [hb, hr]

/-- The backoff is over. -/
theorem portLawful_backedOff (hp : x.phase = .backoff) :
    PortLawful { x with backoffTimer := none, phase := .waitSlot, ready := .data } := by
  obtain ⟨⟨t, ha⟩, hm⟩ := active_of_carries h (by rw [hp]; rfl)
  obtain ⟨hb, hr, htx, hrx⟩ := h.noReset (by rw [hp]; nofun)
  have hsend := h.sending
  rw [hp] at hsend
  refine Still.portLawful ⟨?_, rfl, tx_eq_idle hsend htx, h.frame, ?_, hrx, hb, hr⟩ rfl ?_ (fun hh => absurd hh hm) ?_
  · rw [← Option.isNone_iff_eq_none, ← Option.isSome_eq_false_iff, ← Bool.not_eq_true]
    exact fun hack => absurd (hp.symm.trans (h.ack hack)) nofun
  · rw [← Bool.not_eq_true]
    exact fun he => absurd (hp.symm.trans (h.expected he).1) nofun
  · change x.active.isSome = true
    rw [ha]; rfl
  · simp

/-- The break of a drop reset is over and its recovery begins (R134). -/
theorem portLawful_recovers (hp : x.phase = .resetting) (n : Nat) :
    PortLawful { x with port := { x.port with tx := .idle, breakTimer := none, recoveryTimer := some n } } := by
  refine ⟨h.active, h.halt, h.waits, h.ack, h.backoff, ?_, h.frame, h.expected, h.awaits, h.discarding, ?_, ?_, ?_⟩
  · rw [hp]; rfl
  · simp
  · simp [hp]
  · simp

/-- In a drop reset the lane has no message and nothing of an attempt (R133, R134). -/
theorem resetting_spec (hp : x.phase = .resetting) : x.active = none ∧ x.ackTimer = none ∧ x.backoffTimer = none := by
  have ha := h.active
  have hback : x.backoffTimer.isSome = false := by rw [h.backoff, hp]; rfl
  rw [hp] at ha
  refine ⟨by simpa [Phase.carries] using ha, ?_, by simpa using hback⟩
  rw [← Option.isNone_iff_eq_none, ← Option.isSome_eq_false_iff, ← Bool.not_eq_true]
  exact fun hack => absurd (hp.symm.trans (h.ack hack)) nofun

end

/-- The class of a header fits its kind (R117, R123). -/
theorem frameLawful_of_good {x : Lane} {control : Byte} {n : Nat} (hgood : headerGood control n = true) (taken : Nat)
    (check : BitVec 16) (changed : Bool) (gap : Nat) :
    (Receiver.frame ⟨control, n, taken, check, x.classify (nodeKind control), changed, gap⟩).frameLawful = true := by
  obtain ⟨-, hkind⟩ := (headerGood_iff control n).1 hgood
  have hfit : (match x.classify (nodeKind control) with
      | .expected | .unexpected => (nodeKind control).isAnswer
      | .report => nodeKind control == .report) = true := by
    rw [classify_eq]
    split_ifs with h1 h2
    · exact (isAnswer_iff control).2 h1.1
    · exact beq_iff_eq.2 ((nodeKind_eq_report_iff control).2 h2)
    · exact (isAnswer_iff control).2 (by omega)
  simp only [Receiver.frameLawful, hgood, Bool.true_and]
  exact hfit

/-! ### The laws of one lane of a whole state -/

section
variable {s : State} (h : LawfulBut .whole s) (l : LaneId)
include h

theorem port_of_whole : PortLawful (s.lane l) := h.ports l ⟨nofun, nofun⟩

theorem head_of_whole : HeadLawful (s.lane l) := h.heads l ⟨⟨nofun, nofun⟩, nofun⟩

theorem active_of_whole {t : Ticket} (ha : (s.lane l).active = some t) :
    ∃ r, s.record? t = some r ∧ r.lane = l ∧ r.state = .active := h.active l t nofun ha

/-- The lane has been rewritten, but for what its head stands on. -/
theorem whole_onPort {x : Lane} (hq : x.queue = (s.lane l).queue) (ha : x.active = (s.lane l).active)
    (hc : x.config.cap = (s.lane l).config.cap) (hp : x.phase = (s.lane l).phase) (hm : x.mode = (s.lane l).mode)
    (hport : PortLawful x) : LawfulBut .whole (s.withLane l x) := by
  have hhead := head_of_whole h l
  refine whole_withLane h hq ha hc (by rw [hp]) hport ⟨fun hw => ?_, fun hm' hi => ?_⟩
  · rw [hq]
    exact hhead.waits (hp ▸ hw)
  · rw [hq]
    exact hhead.rests (hm ▸ hm') (hp ▸ hi)

theorem whole_withLane_sameView {x : Lane} (hx : lawView x = lawView (s.lane l)) : LawfulBut .whole (s.withLane l x) :=
  lawfulBut_sameView h hx

/-- In AWAIT_ANSWER the attempt is over once the ack timer has stopped and no expected frame is in reception. -/
theorem attemptOver_of_awaiting (hp : (s.lane l).phase = .awaitAnswer) {x : Lane} (hq : x.queue = (s.lane l).queue)
    (ha : x.active = (s.lane l).active) (hc : x.config.cap = (s.lane l).config.cap) (hph : x.phase = (s.lane l).phase)
    (hm : x.mode = (s.lane l).mode) (hback : x.backoffTimer = (s.lane l).backoffTimer) (hack : x.ackTimer = none)
    (htx : x.port.tx = (s.lane l).port.tx) (hb : x.port.breakTimer = (s.lane l).port.breakTimer)
    (hrec : x.port.recoveryTimer = (s.lane l).port.recoveryTimer) (hframe : x.port.rx.frameLawful = true)
    (hexp : x.port.rx.isExpected = false) (hdis : x.port.rx ≠ .discarding) :
    LawfulBut (.opened l) (s.withLane l x) ∧ ∃ t r, s.record? t = some r ∧ AttemptOver ((s.withLane l x).lane l) t := by
  have hport := port_of_whole h l
  obtain ⟨⟨t, hact⟩, hmode⟩ := active_of_carries hport (by rw [hp]; rfl)
  obtain ⟨hb0, htx0, hbr0, hr0⟩ := awaiting_spec hport hp
  obtain ⟨r, hr, -⟩ := active_of_whole h l hact
  refine ⟨opened_withLane h hq ha hc (by rw [hph]), t, r, hr, ?_⟩
  rw [lane_withLane_self]
  exact ⟨ha.trans hact, ⟨hack, hback.trans hb0, htx.trans htx0, hframe, hexp, hdis, hb.trans hbr0, hrec.trans hr0⟩,
    by rw [hph, hp]; nofun, fun hh => hmode (hm ▸ hh)⟩

/-! ### Timers (R54, R79, R82, R104, R134, R135) -/

theorem whole_creditEarned : LawfulBut .whole (s.creditEarned l) := by
  unfold State.creditEarned
  split_ifs
  · exact whole_withLane_sameView h l rfl
  · exact h

theorem whole_ackExpiry : LawfulBut .whole (s.ackExpiry l) := by
  unfold State.ackExpiry
  split_ifs with hdue
  · obtain ⟨hp, hack⟩ := (ackDue_iff s l).1 hdue
    have hport := port_of_whole h l
    have hexp : ¬(s.lane l).port.rx.isExpected = true := fun he => by
      have := (hport.expected he).2
      rw [hack] at this
      cases this
    rw [onLane_eq_withLane]
    obtain ⟨hopened, t, r, hr, hover⟩ := attemptOver_of_awaiting h l hp (x := { s.lane l with ackTimer := none }) rfl rfl rfl
      rfl rfl rfl rfl rfl rfl rfl hport.frame (Bool.eq_false_iff.2 hexp)
      (hport.noReset (by rw [hp]; nofun)).2.2.2
    exact whole_takeMiss hopened hr hover false
  · exact h

theorem whole_backoffExpiry : LawfulBut .whole (s.backoffExpiry l) := by
  unfold State.backoffExpiry
  split_ifs with hdue
  · obtain ⟨hp, -⟩ := (backoffDue_iff s l).1 hdue
    rw [onLane_eq_withLane]
    refine whole_withLane h rfl rfl rfl ?_ (portLawful_backedOff (port_of_whole h l) hp) (headLawful_of_carries rfl)
    exact iff_of_false nofun (by rw [hp]; nofun)
  · exact h

theorem whole_dropBreakEnd : LawfulBut .whole (s.dropBreakEnd l) := by
  unfold State.dropBreakEnd
  split_ifs with hdue
  · obtain ⟨hp, -⟩ := (dropBreakDue_iff s l).1 hdue
    exact whole_onPort h l rfl rfl rfl rfl rfl (portLawful_recovers (port_of_whole h l) hp _)
  · exact h

theorem whole_dropResetEnd : LawfulBut .whole (s.dropResetEnd l) := by
  cases hdue : s.dropRecoveryDue l with
  | false => rw [State.dropResetEnd, hdue]; exact h
  | true =>
    obtain ⟨hp, hrec⟩ := (dropRecoveryDue_iff s l).1 hdue
    have hport := port_of_whole h l
    obtain ⟨ha, hack, hback⟩ := resetting_spec hport hp
    have hb : (s.lane l).port.breakTimer = none := by
      have := hport.oneTimer
      rw [hrec] at this
      simpa using this
    have htx : (s.lane l).port.tx = .idle := by
      have hsend := hport.sending
      rw [hp] at hsend
      refine tx_eq_idle hsend fun he => ?_
      rw [hport.breaking, hb] at he
      cases he
    rw [dropResetEnd_of_due hdue]
    refine whole_comesToRest (unjudged_withLane h ?_ ?_ ?_ ?_ ?_) ?_ 0
    · rfl
    · exact ha.symm
    · rfl
    · exact iff_of_false nofun (by rw [hp]; nofun)
    · exact Still.portLawful ⟨hack, hback, htx, rfl, rfl, nofun, hb, rfl⟩ rfl rfl (fun _ => rfl) (by simp)
    · rw [lane_withLane_self]

theorem whole_releaseReached : LawfulBut .whole (s.releaseReached l) := by
  unfold State.releaseReached
  split_ifs with hdue
  · simp only [State.releaseDue, Bool.and_eq_true, beq_iff_eq] at hdue
    obtain ⟨⟨hm, hp⟩, -⟩ := hdue
    exact whole_judgeHead (unjudged_of_whole h l) hm (.inr hp)
  · exact h

/-! ### Frames sent (R77, R78) -/

theorem whole_startFrame : LawfulBut .whole (s.startFrame l) := by
  cases hdue : s.startDue l with
  | false => rw [State.startFrame, hdue]; exact h
  | true =>
    obtain ⟨hp, hc, -⟩ := (startDue_iff s l).1 hdue
    have hport := port_of_whole h l
    obtain ⟨⟨t, ha⟩, -⟩ := active_of_carries hport (by rw [hp]; rfl)
    obtain ⟨r, hr, -, hs⟩ := active_of_whole h l ha
    rw [startFrame_of_due ha hr hp hc]
    have hsent := lawfulBut_onRecord h hr hs nofun nofun (f := fun y => { y with sends := min 255 (y.sends + 1) }) (fun _ => rfl)
      ⟨rfl, rfl, rfl, rfl, rfl, rfl, rfl, rfl, rfl, rfl, rfl, rfl, rfl⟩
    refine whole_withLane hsent rfl rfl rfl ?_ (portLawful_sending hport hp r) (headLawful_of_carries rfl)
    exact iff_of_false nofun (by rw [lane_onRecord, hp]; nofun)

theorem whole_frameSent : LawfulBut .whole (s.frameSent l) := by
  by_cases hp : (s.lane l).phase = .sending
  · rw [frameSent_of_sending hp]
    refine whole_withLane h rfl rfl rfl ?_ (portLawful_sent (port_of_whole h l) hp _) (headLawful_of_carries rfl)
    exact iff_of_false nofun (by rw [hp]; nofun)
  · rw [State.frameSent, if_neg hp]
    exact h

/-! ### The receiver (R116, R117, R123) -/

theorem whole_dropStartByte : LawfulBut .whole (s.dropStartByte l) := by
  unfold State.dropStartByte
  split_ifs with hc
  · obtain ⟨hrx, -⟩ := hc
    refine whole_onPort h l rfl rfl rfl rfl rfl (portLawful_hears (port_of_whole h l) rfl ?_ ?_ nofun rfl)
    · rw [hrx]; nofun
    · rw [hrx]; rfl
  · exact h

/-- The lane hunts again after a damaged frame that was not expected. -/
theorem whole_damagedLane (hdis : (s.lane l).port.rx ≠ .discarding) (hexp : (s.lane l).port.rx.isExpected = false) :
    LawfulBut .whole (s.withLane l (damagedLane (s.lane l))) :=
  whole_onPort h l rfl rfl rfl rfl rfl (portLawful_of_view (x := { s.lane l with
      port := { (s.lane l).port with rx := .hunting } }) rfl (portLawful_hears (port_of_whole h l) (rx := .hunting) rfl hdis hexp nofun rfl))

end

end Sys2Proof.Proofs.OpenEvents
end

section
/-! PROOFS. The frames that a node sends keep the laws of the part. -/

namespace Sys2Proof.Proofs.OpenFrames

-- One theorem at a time: each elaboration thread takes 1 GiB of the check's memory limit.
set_option Elab.async false

open Sys2Proof Sys2Proof.Machine Sys2Proof.Proofs.Messages Sys2Proof.Proofs.LaneQueues Sys2Proof.Proofs.LaneModes
  Sys2Proof.Proofs.DeliveryCycle Sys2Proof.Proofs.DropLine
  Sys2Proof.Proofs.Blocks Sys2Proof.Proofs.HeadSelection Sys2Proof.Proofs.OpenLaws Sys2Proof.Proofs.OpenChanges
  Sys2Proof.Proofs.OpenLanes Sys2Proof.Proofs.OpenRecords Sys2Proof.Proofs.OpenMoves Sys2Proof.Proofs.OpenScan
  Sys2Proof.Proofs.OpenHeads Sys2Proof.Proofs.OpenOutcomes Sys2Proof.Proofs.OpenEvents

/-- A REPLY within the limit that is kept leaves all its bytes in the reservation (R130). -/
theorem length_le_keptReply {f : RxFrame} {seq : Bool} {payload : List Byte} {y : Record} (hkind : f.control.toNat % 8 = 7)
    (hseq : f.control.getLsbD 3 = seq) (hw : y.replyWanted = true) (hle : payload.length ≤ y.replyLimit.getD 0) :
    payload.length ≤ (keptReply f seq payload y).reply.length := by
  rw [keptReply, if_pos ⟨hkind, hseq, hw⟩, List.length_append, List.length_take, Nat.min_eq_right hle]
  exact Nat.le_add_right _ _

theorem touched_keptReply (f : RxFrame) (seq : Bool) (payload : List Byte) (y : Record) :
    Touched y (keptReply f seq payload y) := by
  unfold keptReply
  split <;> exact ⟨rfl, rfl, rfl, rfl, rfl, rfl, rfl, rfl, rfl, rfl, rfl, rfl, rfl⟩

/-- An answer kind is an ACK, BUSY, REJECT or REPLY (R114). -/
theorem kinds_of_isAnswer {k : NodeKind} (h : k.isAnswer = true) : k ≠ .none ∧ k ≠ .report := by
  constructor <;> rintro rfl <;> cases h

section
variable {s : State} (h : LawfulBut .whole s) (l : LaneId)
include h

/-! ### Headers (R117, R123) -/

theorem whole_dropHeader (control hi lo : Byte) : LawfulBut .whole (s.dropHeader l control hi lo) := by
  cases hrx : (s.lane l).port.rx with
  | hunting => rw [dropHeader_of_not_header (by rw [hrx]; nofun)]; exact h
  | frame f => rw [dropHeader_of_not_header (by rw [hrx]; nofun)]; exact h
  | discarding => rw [dropHeader_of_not_header (by rw [hrx]; nofun)]; exact h
  | header changed gap =>
    have hport := port_of_whole h l
    have hdis : (s.lane l).port.rx ≠ .discarding := by rw [hrx]; nofun
    have hnot : (s.lane l).port.rx.isExpected = false := by rw [hrx]; rfl
    by_cases hgood : headerGood control (natOf [hi, lo]) = true
    · rw [dropHeader_of_good hrx hgood]
      refine whole_onPort h l rfl rfl rfl rfl rfl
        (portLawful_receives hport (frameLawful_of_good hgood _ _ _ _) hdis nofun ?_ ?_ ?_)
      · split_ifs
        · nofun
        · exact hport.ack
      · intro he
        have hexp : (s.lane l).expects (nodeKind control) = true := by
          by_contra hne
          simp only [Receiver.isExpected, Lane.classify, if_neg hne, beq_iff_eq] at he
          split_ifs at he
        exact ⟨((expects_iff control _).1 hexp).2.1, if_pos hexp⟩
      · intro hp
        by_cases hexp : (s.lane l).expects (nodeKind control) = true
        · refine .inr ?_
          simp only [Receiver.isExpected, Lane.classify, if_pos hexp, beq_self_eq_true]
        · refine .inl ?_
          rw [if_neg hexp]
          exact (hport.awaits hp).resolve_right fun he => absurd (hnot.symm.trans he) nofun
    · by_cases hexp : (s.lane l).expects (nodeKind control) = true
      · rw [dropHeader_of_bad_expected hrx hgood hexp]
        obtain ⟨hopened, t, r, hr, hover⟩ := attemptOver_of_awaiting h l ((expects_iff control _).1 hexp).2.1
          (x := damagedLane { s.lane l with ackTimer := none }) rfl rfl rfl rfl rfl rfl rfl rfl rfl rfl rfl rfl nofun
        exact whole_takeMiss hopened hr hover _
      · rw [dropHeader_of_bad hrx hgood hexp]
        exact whole_damagedLane h l hdis hnot

theorem whole_arriveReport (bytes : List Byte) : LawfulBut .whole (s.arriveReport l bytes) := by
  unfold State.arriveReport
  split_ifs
  · refine lawfulBut_raise (whole_withLane_sameView h l ?_) _
    rfl
  · refine lawfulBut_raise (whole_withLane_sameView h l ?_) _
    rfl

/-! ### Frames at their end (R116, R118, R124, R130, R132) -/

section
variable {f : RxFrame} (hrx : (s.lane l).port.rx = .frame f)
include hrx

/-- An expected frame is in reception in AWAIT_ANSWER, and of an answer kind; its bytes go into the record of the active
message. -/
theorem expected_spec (he : f.answer = .expected) (payload : List Byte) :
    (s.lane l).phase = .awaitAnswer ∧ (s.lane l).ackTimer = none ∧ (nodeKind f.control).isAnswer = true ∧
    ∃ t r, (s.lane l).active = some t ∧ LawfulBut .whole (s.storeReply l f payload) ∧
      (s.storeReply l f payload).lane l = s.lane l ∧
      (s.storeReply l f payload).record? t = some (keptReply f (s.lane l).seq payload r) := by
  have hport := port_of_whole h l
  obtain ⟨hp, hack⟩ := hport.expected (by rw [hrx]; exact beq_iff_eq.2 he)
  have hframe := hport.frame
  simp only [hrx, Receiver.frameLawful, he, Bool.and_eq_true] at hframe
  obtain ⟨⟨t, ha⟩, -⟩ := active_of_carries hport (by rw [hp]; rfl)
  obtain ⟨r, hr, -, hs⟩ := active_of_whole h l ha
  refine ⟨hp, hack, hframe.2, t, r, ha, ?_⟩
  rw [storeReply_of_expected ha he]
  exact ⟨lawfulBut_onRecord h hr hs nofun nofun (keptReply_ticket f _ payload) (touched_keptReply f _ payload r), rfl,
    record?_onRecord_self hr _ (keptReply_ticket f _ payload)⟩

theorem whole_frameDamaged (payload : List Byte) : LawfulBut .whole (frameDamaged s l f payload) := by
  by_cases he : f.answer = .expected
  · obtain ⟨hp, hack, -, t, r, -, hstored, hlane, -⟩ := expected_spec h l hrx he payload
    rw [frameDamaged, State.damagedFrame, if_pos (beq_iff_eq.2 he), hunt_countDamaged]
    obtain ⟨hopened, t, r, hr, hover⟩ := attemptOver_of_awaiting hstored l (by rw [hlane]; exact hp)
      (x := damagedLane ((s.storeReply l f payload).lane l)) rfl rfl rfl rfl rfl rfl (by rw [hlane]; exact hack) rfl rfl rfl rfl
      rfl nofun
    exact whole_takeMiss hopened hr hover _
  · rw [frameDamaged_of_not_expected he]
    exact whole_damagedLane h l (by rw [hrx]; nofun) (by rw [hrx]; exact beq_eq_false_iff_ne.2 he)

/-- A frame that was not expected leaves the lane hunting again. -/
theorem whole_hunt (he : f.answer ≠ .expected) : LawfulBut .whole (s.hunt l) := by
  rw [Sys2Proof.Proofs.DeliveryCycle.hunt_eq]
  exact whole_onPort h l rfl rfl rfl rfl rfl (portLawful_hears (port_of_whole h l) rfl (by rw [hrx]; nofun)
    (by rw [hrx]; exact beq_eq_false_iff_ne.2 he) nofun rfl)

/-- The judgement of an expected answer (R124, R125). -/
theorem whole_judgeAnswer (he : f.answer = .expected) (payload : List Byte) :
    LawfulBut .whole (((s.storeReply l f payload).hunt l).judgeAnswer l f.control payload) := by
  obtain ⟨hp, hack, hanswer, t, r, ha, hstored, hlane, hrec⟩ := expected_spec h l hrx he payload
  revert hstored hlane hrec
  generalize s.storeReply l f payload = u
  intro hstored hlane hrec
  let heard : Lane := { s.lane l with port := { (s.lane l).port with rx := .hunting } }
  have hhunt : u.hunt l = u.withLane l heard := by
    change u.withLane l { u.lane l with port := { (u.lane l).port with rx := .hunting } } = _
    rw [hlane]
  have hheard : (u.withLane l heard).lane l = heard := lane_withLane_self _ _ _
  rw [hhunt]
  by_cases hseq : answerSeq f.control = (s.lane l).seq
  · obtain ⟨hopened, -⟩ := attemptOver_of_awaiting hstored l (by rw [hlane]; exact hp) (x := heard) (by rw [hlane])
      (by rw [hlane]) (by rw [hlane]) (by rw [hlane]) (by rw [hlane]) (by rw [hlane]) hack (by rw [hlane]) (by rw [hlane])
      (by rw [hlane]) rfl rfl nofun
    have hport := port_of_whole h l
    obtain ⟨hb0, htx0, hbr0, hr0⟩ := awaiting_spec hport hp
    have hover : AttemptOver ((u.withLane l heard).lane l) t := by
      rw [hheard]
      exact ⟨ha, ⟨hack, hb0, htx0, rfl, rfl, nofun, hbr0, hr0⟩, by rw [show heard.phase = _ from hp]; nofun,
        (active_of_carries hport (by rw [hp]; rfl)).2⟩
    have hrec' : (u.withLane l heard).record? t = some (keptReply f (s.lane l).seq payload r) := hrec
    rw [State.judgeAnswer, if_pos (by rw [hheard]; exact hseq), hover.active]
    simp only [hrec']
    split
    · exact whole_completeActive hopened hrec' hover (Nat.zero_le _) fun hne => absurd rfl hne
    · exact whole_takeBusy hopened hrec' hover
    · exact whole_takeReject hopened hrec' hover _
    · rename_i hk
      split_ifs with hw hle
      · have hkept := touched_keptReply f (s.lane l).seq payload r
        refine whole_completeActive hopened hrec' hover ?_ fun _ => ⟨hw, hle⟩
        rw [hkept.wanted] at hw
        rw [hkept.limit] at hle
        exact length_le_keptReply ((nodeKind_eq_reply_iff f.control).1 hk) hseq hw hle
      · exact whole_takeOversize hopened hrec' hover
      · exact whole_completeActive hopened hrec' hover (Nat.zero_le _) fun hne => absurd rfl hne
    · rename_i hk
      exact absurd hk (kinds_of_isAnswer hanswer).1
    · rename_i hk
      exact absurd hk (kinds_of_isAnswer hanswer).2
  · rw [judgeAnswer_of_wrong_seq (by rw [hheard]; exact hseq), State.startAck, State.countStray, State.onCounters, onLane_onLane,
      onLane_eq_withLane, hheard, withLane_withLane]
    refine whole_onPort hstored l (by rw [hlane]) (by rw [hlane]) (by rw [hlane]) (by rw [hlane]) (by rw [hlane]) ?_
    have hport := port_of_whole h l
    refine portLawful_of_view (x := { s.lane l with
      ackTimer := some (Config.ticksPerMs * (s.lane l).config.ackTimeout), port := { (s.lane l).port with rx := .hunting } }) rfl ?_
    exact portLawful_receives hport rfl (by rw [hrx]; nofun) nofun (fun _ => hp) nofun fun _ => .inl rfl

theorem whole_dropFrameEnd_of_frame (chars : List Byte) : LawfulBut .whole (s.dropFrameEnd l chars) := by
  unfold State.dropFrameEnd
  simp only [hrx]
  split_ifs with hlen hgood
  · have hheard {he : f.answer ≠ .expected} : LawfulBut .whole ((s.storeReply l f (chars.take f.length)).hunt l) := by
      rw [storeReply_of_other (.inl he)]
      exact whole_hunt h l hrx he
    split
    · rename_i he
      exact whole_judgeAnswer h l hrx he _
    · rename_i he
      exact whole_withLane_sameView (hheard (he := by rw [he]; nofun)) l rfl
    · rename_i he
      exact whole_arriveReport (hheard (he := by rw [he]; nofun)) l _
  · exact whole_frameDamaged h l hrx _
  · exact h

end

theorem whole_dropFrameEnd (chars : List Byte) : LawfulBut .whole (s.dropFrameEnd l chars) := by
  cases hrx : (s.lane l).port.rx with
  | hunting => rw [dropFrameEnd_of_no_frame (.inl hrx)]; exact h
  | header changed gap => unfold State.dropFrameEnd; rw [hrx]; exact h
  | discarding => rw [dropFrameEnd_of_no_frame (.inr hrx)]; exact h
  | frame f => exact whole_dropFrameEnd_of_frame h l hrx chars

theorem whole_cutFrame (taken : List Byte) : LawfulBut .whole (s.cutFrame l taken) := by
  cases hrx : (s.lane l).port.rx with
  | hunting => rw [cutFrame_of_no_frame (.inl hrx)]; exact h
  | discarding => rw [cutFrame_of_no_frame (.inr hrx)]; exact h
  | header changed gap =>
    by_cases hlen : taken.length < 3
    · rw [cutFrame_of_header hrx hlen]
      exact whole_damagedLane h l (by rw [hrx]; nofun) (by rw [hrx]; rfl)
    · simp only [State.cutFrame, hrx, if_neg hlen]
      exact h
  | frame f =>
    by_cases hlen : taken.length < f.length + 2
    · rw [cutFrame_of_frame hrx hlen]
      exact whole_frameDamaged h l hrx _
    · simp only [State.cutFrame, hrx, if_neg hlen]
      exact h

theorem whole_gapCut (cut : GapCut) : LawfulBut .whole (s.gapCut l cut) := by
  unfold State.gapCut
  split_ifs
  · exact whole_cutFrame h l _
  · exact h

end

end Sys2Proof.Proofs.OpenFrames
end

section
/-! PROOFS. The requests that name a lane, and the host-quiet expiry, keep the laws of the part. -/

namespace Sys2Proof.Proofs.OpenRequests

-- One theorem at a time: each elaboration thread takes 1 GiB of the check's memory limit.
set_option Elab.async false

open Sys2Proof Sys2Proof.Machine Sys2Proof.Proofs.Messages Sys2Proof.Proofs.LaneQueues Sys2Proof.Proofs.LaneModes
  Sys2Proof.Proofs.DeliveryCycle
  Sys2Proof.Proofs.Blocks Sys2Proof.Proofs.HeadSelection Sys2Proof.Proofs.OpenLaws Sys2Proof.Proofs.OpenChanges
  Sys2Proof.Proofs.OpenLanes Sys2Proof.Proofs.OpenRecords Sys2Proof.Proofs.OpenMoves Sys2Proof.Proofs.OpenScan
  Sys2Proof.Proofs.OpenHeads Sys2Proof.Proofs.OpenOutcomes Sys2Proof.Proofs.OpenEvents

/-! ### Lanes that change mode (R68 to R72) -/

section
variable {x : Lane} (h : PortLawful x)
include h

theorem portLawful_setMode {m : Mode} (hh : m = .halt → x.active = none)
    (hw : m = .pass ∨ x.phase ≠ .waitTime ∧ x.phase ≠ .waitSpace) : PortLawful { x with mode := m } :=
  ⟨h.active, hh, fun hp => hw.resolve_right fun ⟨h1, h2⟩ => hp.elim h1 h2, h.ack, h.backoff, h.sending, h.frame, h.expected,
    h.awaits, h.discarding, h.breaking, h.timers, h.oneTimer⟩

theorem portLawful_idle (hp : Phase.awaits x.phase = true) (m : Mode) : PortLawful { x with mode := m, phase := .idle } := by
  have hx := h.still (awaits_spec hp).1
  have ha : x.active = none := by
    rw [← Option.isNone_iff_eq_none, ← Option.isSome_eq_false_iff, h.active]
    exact (awaits_spec hp).2
  exact Still.portLawful ⟨hx.ack, hx.backoff, hx.idle, hx.frame, hx.expected, hx.discarding, hx.breaks, hx.recovers⟩ rfl
    (by rw [ha]; rfl) (fun _ => ha) (by simp)

/-- A lane out of PASS, not busy, is idle. -/
theorem idle_of_quiet (hm : x.mode ≠ .pass) (ha : x.active = none) (hp : x.phase ≠ .resetting) : x.phase = .idle := by
  have hc := h.active
  rw [ha] at hc
  have hw := h.waits
  cases he : x.phase with
  | idle => rfl
  | waitTime => exact absurd (hw (.inl he)) hm
  | waitSpace => exact absurd (hw (.inr he)) hm
  | resetting => exact absurd he hp
  | waitSlot => rw [he] at hc; cases hc
  | sending => rw [he] at hc; cases hc
  | awaitAnswer => rw [he] at hc; cases hc
  | backoff => rw [he] at hc; cases hc

end

section
variable {s : State} {l : LaneId} (h : LawfulBut .whole s)
include h

/-- A lane that leaves PASS, or changes HOLD for HALT, waits no longer (R71, R72). -/
theorem whole_stopWaiting_setMode {m : Mode} (hm : m ≠ .pass) (hh : m = .halt → (s.lane l).active = none) :
    LawfulBut .whole ((s.setMode l m).stopWaiting l) := by
  have hport := port_of_whole h l
  have hmode : (s.setMode l m).lane l = { s.lane l with mode := m } := lane_withLane_self s l _
  unfold State.stopWaiting
  rw [hmode]
  split
  · rename_i hp
    have hone : (s.setMode l m).setPhase l .idle = s.withLane l { s.lane l with mode := m, phase := .idle } := by
      rw [State.setPhase, State.setMode, onLane_onLane]; rfl
    rw [hone]
    refine whole_withLane h rfl rfl rfl (iff_of_false nofun ?_) (portLawful_idle hport (by rw [show (s.lane l).phase = _ from hp]; rfl) m)
      (headLawful_of_rest rfl hm)
    rw [show (s.lane l).phase = _ from hp]
    nofun
  · rename_i hp
    have hone : ((s.setMode l m).removeWaiting l).setPhase l .idle =
        (s.removeWaiting l).withLane l { s.lane l with mode := m, phase := .idle } := by
      change ((s.setMode l m).setPhase l .idle).removeWaiting l = _
      rw [State.setPhase, State.setMode, onLane_onLane]; rfl
    rw [hone]
    exact whole_removed h (.inl rfl) rfl rfl rfl nofun
      (portLawful_idle hport (by rw [show (s.lane l).phase = _ from hp]; rfl) m) (headLawful_of_rest rfl hm)
  · rename_i h1 h2
    refine whole_withLane h rfl rfl rfl Iff.rfl (portLawful_setMode hport hh (.inr ⟨h1, h2⟩))
      ⟨fun hp => absurd hp fun he => he.elim h1 h2, fun hp => absurd hp hm⟩

theorem whole_leaveWait_setMode {m : Mode} (hm : m ≠ .pass) (hh : m = .halt → (s.lane l).active = none) :
    LawfulBut .whole ((s.setMode l m).leaveWait l) := by
  unfold State.leaveWait
  split_ifs
  · exact whole_grantScan (whole_stopWaiting_setMode h hm hh)
  · exact whole_stopWaiting_setMode h hm hh

/-! ### The host-quiet expiry (R176) -/

theorem whole_holdQuiet (l : LaneId) : LawfulBut .whole (s.holdQuiet l) := by
  unfold State.holdQuiet
  split_ifs
  · exact lawfulBut_raise (whole_stopWaiting_setMode (m := .hold) h nofun nofun) _
  · exact h

omit h in
theorem whole_foldl {g : State → LaneId → State} (hg : ∀ u l, LawfulBut .whole u → LawfulBut .whole (g u l))
    (ls : List LaneId) {s : State} (h : LawfulBut .whole s) : LawfulBut .whole (ls.foldl g s) := by
  induction ls generalizing s with
  | nil => exact h
  | cons l ls ih => exact ih (hg s l h)

theorem whole_quietExpiry : LawfulBut .whole s.quietExpiry := by
  unfold State.quietExpiry
  split_ifs
  · exact whole_grantScan (whole_foldl (fun u l hu => whole_holdQuiet hu l) _ (lawfulBut_onLink h _))
  · exact h

/-! ### LANE_CONFIG, LANE_STATUS, LANE_RESEQ and DROP_RESET (R66, R96, R134, R137) -/

theorem whole_configure {c : LaneConfig} (hq : ¬(s.lane l).laneActive = true) (hc : s.held l ≤ c.cap) :
    LawfulBut .whole (s.withLane l ((s.lane l).configure c)) := by
  rw [laneActive_iff, not_or, not_or] at hq
  obtain ⟨hm, ha, hp⟩ := hq
  have hport := port_of_whole h l
  have hhead := head_of_whole h l
  have ha' : (s.lane l).active = none := by simpa using ha
  have hidle := idle_of_quiet hport hm ha' hp
  have hx := hport.still (by rw [hidle]; rfl)
  have hlane : (s.withLane l ((s.lane l).configure c)).lane l = (s.lane l).configure c := lane_withLane_self _ _ _
  have hrx : PortLawful ((s.lane l).configure c) := by
    refine Still.portLawful ?_ (by rw [Lane.configure, hidle]; rfl) hport.active hport.halt hport.waits
    unfold Lane.configure
    split_ifs
    · exact ⟨hx.ack, hx.backoff, hx.idle, hx.frame, hx.expected, hx.discarding, hx.breaks, hx.recovers⟩
    · have hframe := hx.frame
      have hexp := hx.expected
      have hdis := hx.discarding
      refine ⟨hx.ack, hx.backoff, hx.idle, ?_, ?_, ?_, hx.breaks, hx.recovers⟩
      · change ((s.lane l).port.rx.rateChange).frameLawful = true
        revert hframe
        cases (s.lane l).port.rx <;> exact id
      · change ((s.lane l).port.rx.rateChange).isExpected = false
        revert hexp
        cases (s.lane l).port.rx <;> exact id
      · change (s.lane l).port.rx.rateChange ≠ .discarding
        revert hdis
        cases (s.lane l).port.rx <;> simp [Receiver.rateChange]
  refine lawfulBut_of_lane h ⟨rfl, rfl, fun m hm => lane_withLane_of_ne s _ hm, by rw [hlane]; rfl,
    fun t _ ht => ⟨nofun, ?_⟩, fun t _ ht => ⟨nofun, ?_⟩, by rw [hlane]; exact hc, fun _ => by rw [hlane]; exact hrx,
    fun _ => ?_, ?_, beside_refl _ l, fun _ => Iff.rfl⟩
  · rw [hlane] at ht; exact ht
  · rw [hlane]; exact ht
  · rw [hlane]
    exact headLawful_of_rest hidle hm
  · refine waitsKept_of_same h rfl (by rw [hlane]; exact Iff.rfl) fun _ hg => ⟨hg, head?_of_same (by rw [hlane]; rfl) fun _ _ => rfl⟩

theorem whole_beginReset (hq : ¬(s.lane l).laneActive = true) : LawfulBut .whole (s.withLane l (s.lane l).beginReset) := by
  rw [laneActive_iff, not_or, not_or] at hq
  obtain ⟨hm, ha, hp⟩ := hq
  have hport := port_of_whole h l
  have ha' : (s.lane l).active = none := by simpa using ha
  have hidle := idle_of_quiet hport hm ha' hp
  obtain ⟨hack, hback, -, -, -, -, -, hrec⟩ := hport.still (by rw [hidle]; rfl)
  refine whole_withLane h rfl rfl rfl (iff_of_false nofun (by rw [hidle]; nofun)) ?_ (headLawful_of_phase nofun nofun nofun)
  refine ⟨?_, fun _ => ha', ?_, fun hh => ?_, ?_, rfl, rfl, nofun, nofun, iff_of_true rfl rfl, iff_of_true rfl rfl, rfl, ?_⟩
  · change (s.lane l).active.isSome = false
    rw [ha']; rfl
  · simp [Lane.beginReset]
  · change (s.lane l).ackTimer.isSome = true at hh
    rw [hack] at hh
    cases hh
  · change (s.lane l).backoffTimer.isSome = false
    rw [hback]; rfl
  · change ¬(_ ∧ (s.lane l).port.recoveryTimer.isSome = true)
    rw [hrec]
    simp

theorem whole_runLaneConfig (body : List Byte) : LawfulBut .whole (runLaneConfig body s).2 := by
  unfold runLaneConfig
  split
  · exact h
  · split_ifs with hq hc
    · exact h
    · exact h
    · exact whole_configure h hq (Nat.le_of_not_lt hc)

theorem whole_runLaneStatus (body : List Byte) : LawfulBut .whole (runLaneStatus body s).2 := by
  unfold runLaneStatus
  split
  · exact h
  · dsimp only
    split_ifs
    · refine whole_withLane_sameView h _ ?_
      rfl
    · exact h

theorem whole_runLaneReseqForce (body : List Byte) : LawfulBut .whole (runLaneReseqForce body s).2 := by
  unfold runLaneReseqForce
  split
  · exact h
  · split_ifs
    · exact h
    · refine whole_withLane_sameView h _ ?_
      rfl

theorem whole_runLaneReseqMark (body : List Byte) : LawfulBut .whole (runLaneReseqMark body s).2 := by
  unfold runLaneReseqMark
  split
  · exact h
  · split_ifs
    · exact h
    · refine whole_withLane_sameView h _ ?_
      rfl

theorem whole_runDropReset (body : List Byte) : LawfulBut .whole (runDropReset body s).2 := by
  unfold runDropReset
  split
  · exact h
  · split_ifs with hq
    · exact h
    · exact whole_beginReset h hq

theorem whole_runReportTake (body : List Byte) : LawfulBut .whole (runReportTake body s).2 := by
  unfold runReportTake
  split
  · exact h
  · split
    · exact h
    · refine whole_withLane_sameView h _ ?_
      rfl

/-! ### LANE_MODE (R69 to R72, R91, R92) -/

theorem whole_runLaneModeHold (body : List Byte) : LawfulBut .whole (runLaneModeHold body s).2 := by
  unfold runLaneModeHold
  split
  · exact h
  · rename_i l _
    split
    · exact h
    · exact whole_leaveWait_setMode h nofun nofun
    · rename_i hm
      have hport := port_of_whole h l
      have hne : (s.lane l).mode ≠ .pass := by rw [hm]; nofun
      have hw : (s.lane l).phase ≠ .waitTime ∧ (s.lane l).phase ≠ .waitSpace :=
        ⟨fun hp => hne (hport.waits (.inl hp)), fun hp => hne (hport.waits (.inr hp))⟩
      exact whole_withLane h rfl rfl rfl Iff.rfl (portLawful_setMode hport nofun (.inr hw))
        ⟨fun hp => absurd hp fun he => he.elim hw.1 hw.2, nofun⟩

/-- A lane from HOLD to PASS reloads its quota, and judges its head unless it is busy (R70). -/
theorem whole_runLaneModePass (body : List Byte) : LawfulBut .whole (runLaneModePass body s).2 := by
  unfold runLaneModePass
  split
  · exact h
  · rename_i l _
    split
    · rename_i hm
      let x : Lane := { s.lane l with mode := .pass, quotaLeft := (s.lane l).config.quota }
      have hport := port_of_whole h l
      have hport' : PortLawful x := portLawful_of_view (x := { s.lane l with mode := .pass }) rfl
        (portLawful_setMode hport nofun (.inl rfl))
      dsimp only
      split_ifs with hb
      · refine whole_withLane (x := x) h rfl rfl rfl Iff.rfl hport' ?_
        rcases (busy_iff (s.lane l)).1 hb with ha | hp
        · exact headLawful_of_carries (hport.active ▸ ha)
        · exact headLawful_of_phase (by rw [show x.phase = _ from hp]; nofun) (by rw [show x.phase = _ from hp]; nofun)
            (by rw [show x.phase = _ from hp]; nofun)
      · rw [busy_iff, not_or] at hb
        obtain ⟨ha, hp⟩ := hb
        have hidle := idle_of_quiet hport (by rw [hm]; nofun) (by simpa using ha) hp
        have hlane : (s.withLane l x).lane l = x := lane_withLane_self _ _ _
        exact whole_judgeHead (s := s.withLane l x) (unjudged_withLane (x := x) h rfl rfl rfl Iff.rfl hport') (by rw [hlane])
          (.inl (by rw [hlane]; exact hidle))
    · exact h
    · exact h

/-- A lane whose attempt is cut short is still. -/
theorem still_cutLane (hp : (s.lane l).phase.carries = true) : Still (cutLane (s.lane l)) := by
  have hport := port_of_whole h l
  have hne : (s.lane l).phase ≠ .resetting := fun he => by rw [he] at hp; cases hp
  obtain ⟨hb, hr, -, hrx⟩ := hport.noReset hne
  have hframe := hport.frame
  refine ⟨rfl, rfl, rfl, ?_, ?_, ?_, hb, hr⟩
  · change ((s.lane l).port.rx.unexpect).frameLawful = true
    revert hframe
    cases (s.lane l).port.rx with
    | frame f =>
      by_cases he : f.answer = .expected
      · simp [Receiver.unexpect, Receiver.frameLawful, he]
      · simp only [Receiver.unexpect, if_neg he]
        exact id
    | hunting => exact id
    | header changed gap => exact id
    | discarding => exact id
  · change ((s.lane l).port.rx.unexpect).isExpected = false
    cases (s.lane l).port.rx with
    | frame f =>
      by_cases he : f.answer = .expected
      · simp [Receiver.unexpect, Receiver.isExpected, he]
      · simp [Receiver.unexpect, Receiver.isExpected, he]
    | hunting => rfl
    | header changed gap => rfl
    | discarding => rfl
  · change (s.lane l).port.rx.unexpect ≠ .discarding
    revert hrx
    cases (s.lane l).port.rx <;> simp [Receiver.unexpect]

/-- The halt-abort: the message ends by its mark or goes back to its queue, and the lane rests in HALT (R91, R92). -/
theorem whole_haltAbort {t : Ticket} (ha : (s.lane l).active = some t) : LawfulBut .whole (s.haltAbort l t) := by
  obtain ⟨r, hr, rfl, hs⟩ := active_of_whole h l ha
  have hport := port_of_whole h r.lane
  have hcarries : (s.lane r.lane).phase.carries = true := by rw [← hport.active, ha]; rfl
  have hstill := still_cutLane h hcarries
  have hspace : (s.lane r.lane).phase ≠ .waitSpace := fun he => by rw [he] at hcarries; cases hcarries
  -- what the scan after either outcome leaves
  have rests {u : State} {x : Lane} (hu : LawfulBut (.ended r.lane) u) (hx : u.lane r.lane = x) (hp : x.phase ≠ .waitSpace)
      (hst : Still x) (hm : x.mode = .halt) :
      LawfulBut .whole ((atRest u.grantScan r.lane).raise ⟨.idle, some r.lane, t, .none, none⟩) := by
    have hlane := (lane_grantScan_of_not_waiting (s := u) (l := r.lane) (by
      rw [← Bool.not_eq_true, hu.waiting, hx]; exact hp)).trans hx
    have hrest := whole_rested hu (x := { x with active := none, phase := .idle }) (still_of_port hst rfl rfl rfl)
      (by rw [hx]; exact hp) (by rw [hlane]) (by rw [hlane]) rfl rfl [] t
    rw [comesToRest_of_ne_pass (by rw [lane_raised, lane_withLane_self, hm]; nofun)] at hrest
    rw [atRest, hlane]
    exact hrest
  cases hmark : r.cancelMark with
  | true =>
    rw [haltAbort_of_marked hr hmark]
    let x : Lane := { cutLane (s.lane r.lane) with
      mode := .halt, resync := (s.lane r.lane).resync || unsureAfterCut (s.lane r.lane) r }
    let f (y : Record) : Record :=
      Record.finish .cancelled .byHost none s.time (withUncertain (unsureAfterCut (s.lane r.lane) r) y)
    have hlaw : RecordLawful (withUncertain (unsureAfterCut (s.lane r.lane) r) r) := h.records t r hr
    have hopened : LawfulBut (.opened r.lane) (s.withLane r.lane x) := opened_withLane h rfl rfl rfl Iff.rfl
    refine rests (u := cancelledAtHalt s r.lane t r) (x := x) ?_ (lane_withLane_self _ _ _) hspace
      (still_of_port hstill rfl rfl rfl) rfl
    refine ended_of_opened (s := s.withLane r.lane x) (f := f) hopened hr (by rw [lane_withLane_self]; exact ha) (fun _ => rfl) rfl
      rfl rfl (lawful_finish hlaw (fun he => absurd (hs.symm.trans he) nofun) (.inr rfl) rfl _) (Nat.zero_le _) ?_
    refine accounted_of_rewritten hopened.accounted hr f (fun _ => rfl) rfl rfl ?_
    change ((s.pool.free ++ (r.payloadChain ++ r.replyChain)) ++ []).Perm (s.pool.free ++ (r.payloadChain ++ r.replyChain))
    rw [List.append_nil]
  | false =>
    rw [haltAbort_of_unmarked hr hmark]
    let x : Lane := { cutLane (s.lane r.lane) with mode := .halt }
    have hopened : LawfulBut (.opened r.lane) (s.withLane r.lane x) := opened_withLane h rfl rfl rfl Iff.rfl
    have hended := ended_of_requeued hopened hr (by rw [lane_withLane_self]; exact ha) (unsureAfterCut (s.lane r.lane) r)
    have heq : (((s.withLane r.lane x).returnBlocks r.replyChain).onRecord t fun y =>
        requeuedRecord (withUncertain (unsureAfterCut (s.lane r.lane) r) y)).withLane r.lane
        { (s.withLane r.lane x).lane r.lane with queue := backInQueue (s.withLane r.lane x) r.lane t r.urgent } =
        requeuedAtHalt s r.lane t r := by
      have hq : backInQueue (s.withLane r.lane x) r.lane t r.urgent =
          if r.urgent then t :: (s.lane r.lane).queue else s.afterUrgent t (s.lane r.lane).queue := by
        unfold backInQueue
        rw [lane_withLane_self]
        rfl
      rw [hq, lane_withLane_self]
      exact withLane_withLane (((s.returnBlocks r.replyChain).onRecord t fun y =>
        requeuedRecord (withUncertain (unsureAfterCut (s.lane r.lane) r) y))) r.lane x _
    rw [heq] at hended
    exact rests hended (lane_withLane_self _ _ _) hspace (still_of_port hstill rfl rfl rfl) rfl

theorem whole_runLaneModeHalt (body : List Byte) : LawfulBut .whole (runLaneModeHalt body s).2 := by
  have enters (l : LaneId) : LawfulBut .whole (s.enterHalt l) := by
    cases ha : (s.lane l).active with
    | none => rw [enterHalt_of_none ha]; exact whole_leaveWait_setMode h nofun fun _ => ha
    | some t => rw [enterHalt_of_some ha]; exact whole_haltAbort h ha
  unfold runLaneModeHalt
  split
  · exact h
  · split
    · exact h
    · exact enters _
    · exact enters _

/-! ### LANE_FLUSH (R55, R56) -/

omit h in
theorem endRecord_onLane (s : State) (t : Ticket) (st : RecordState) (cause : Cause) (reject : Option Byte) (l : LaneId)
    (f : Lane → Lane) : (s.onLane l f).endRecord t st cause reject = (s.endRecord t st cause reject).onLane l f := by
  unfold State.endRecord
  rw [record?_onLane]
  cases s.record? t <;> rfl

omit h in
theorem flushAll_onLane (s : State) (q : List Ticket) (l : LaneId) (f : Lane → Lane) :
    (s.onLane l f).flushAll q = (s.flushAll q).onLane l f := by
  unfold State.flushAll
  induction q generalizing s with
  | nil => rfl
  | cons t q ih => rw [List.foldl_cons, List.foldl_cons, endRecord_onLane, ih]

omit h in
/-- The queue of the lane ends record by record, each leaving the queue as it ends. -/
theorem unjudged_flushed {s : State} (h : LawfulBut (.unjudged l) s) {q : List Ticket} (hq : (s.lane l).queue = q) :
    LawfulBut (.unjudged l) ((s.flushAll q).onLane l fun x => { x with queue := [] }) := by
  induction q generalizing s with
  | nil =>
    refine lawfulBut_sameView h ?_
    change lawView { s.lane l with queue := [] } = lawView (s.lane l)
    rw [← hq]
  | cons t q ih =>
    obtain ⟨r, hr, rfl, hs⟩ := h.entries l t (by rw [hq]; exact List.mem_cons_self)
    obtain rfl : r.ticket = t := (record?_some hr).2
    let u := (s.endRecord r.ticket .cancelled .flushed none).onLane r.lane fun x => { x with queue := x.queue.erase r.ticket }
    have hu : LawfulBut (.unjudged r.lane) u := by
      have := unjudged_cancelled h hr hs .flushed nofun
      rw [← endRecord_eq_ended hr] at this
      have hlane : (s.endRecord r.ticket .cancelled .flushed none).lane r.lane = s.lane r.lane := by
        rw [endRecord_eq_ended hr]; rfl
      change LawfulBut _ ((s.endRecord r.ticket .cancelled .flushed none).withLane r.lane _)
      rw [hlane]
      exact this
    have hqu : (u.lane r.lane).queue = q := by
      change (((s.endRecord r.ticket .cancelled .flushed none).onLane r.lane _).lane r.lane).queue = q
      rw [lane_onLane_self, endRecord_eq_ended hr]
      change (s.lane r.lane).queue.erase r.ticket = q
      rw [hq, List.erase_cons_head]
    have hall := ih hu hqu
    rw [flushAll_onLane, onLane_onLane] at hall
    exact hall

omit h in
/-- A lane without queue stops waiting and has no head to judge. -/
theorem whole_stopWaiting_of_nil {u : State} (hu : LawfulBut (.unjudged l) u) (hq : (u.lane l).queue = []) :
    LawfulBut .whole (u.stopWaiting l) := by
  have hport := portLawful_of_unjudged hu
  have hhead {x : Lane} (hx : x.queue = []) (hp : x.phase ≠ .waitTime ∧ x.phase ≠ .waitSpace) : HeadLawful x :=
    ⟨fun hw => absurd hw fun he => he.elim hp.1 hp.2, fun _ _ => hx⟩
  unfold State.stopWaiting
  split
  · rename_i hp
    exact judged_withLane hu rfl rfl rfl (by rw [hp]; nofun) nofun (portLawful_setPhase hu (by rw [hp]; rfl) rfl (.inr rfl))
      (hhead hq ⟨nofun, nofun⟩)
  · rename_i hp
    exact whole_removed hu (.inr rfl) rfl rfl rfl nofun (portLawful_setPhase hu (by rw [hp]; rfl) rfl (.inr rfl))
      (hhead hq ⟨nofun, nofun⟩)
  · rename_i h1 h2
    refine whole_of_unjudged hu (hhead hq ⟨h1, h2⟩) fun e he hl => ?_
    exact absurd ((hu.waiting l).1 ((isWaiting_iff u l).2 ⟨e, he, hl⟩)) h2

theorem whole_flushLane : LawfulBut .whole (s.flushLane l) := by
  have hflushed := unjudged_flushed (unjudged_of_whole h l) (q := (s.lane l).queue) rfl
  exact whole_grantScan (whole_stopWaiting_of_nil hflushed (by rw [lane_onLane_self]))

theorem whole_runLaneFlush (body : List Byte) : LawfulBut .whole (runLaneFlush body s).2 := by
  unfold runLaneFlush
  split
  · exact h
  · dsimp only
    split_ifs
    · exact h
    · exact whole_flushLane h

end

end Sys2Proof.Proofs.OpenRequests
end

section
/-! PROOFS. CANCEL and RETIRE keep the laws of the part. -/

namespace Sys2Proof.Proofs.OpenCancels

-- One theorem at a time: each elaboration thread takes 1 GiB of the check's memory limit.
set_option Elab.async false

open Sys2Proof Sys2Proof.Machine Sys2Proof.Proofs.Messages Sys2Proof.Proofs.LaneQueues Sys2Proof.Proofs.LaneModes
  Sys2Proof.Proofs.DeliveryCycle
  Sys2Proof.Proofs.Blocks Sys2Proof.Proofs.HeadSelection Sys2Proof.Proofs.OpenLaws Sys2Proof.Proofs.OpenChanges
  Sys2Proof.Proofs.OpenLanes Sys2Proof.Proofs.OpenRecords Sys2Proof.Proofs.OpenMoves Sys2Proof.Proofs.OpenScan
  Sys2Proof.Proofs.OpenHeads Sys2Proof.Proofs.OpenOutcomes Sys2Proof.Proofs.OpenEvents

/-! ### CANCEL of a QUEUED record (R37) -/

/-- A queue that has changed behind its head needs no judgement. -/
theorem whole_of_sameHead {g : Gap} {s u : State} {l : LaneId} (h : LawfulBut g s) (hg : g.headKept l)
    (hu : LawfulBut (.unjudged l) u) (hm : (u.lane l).mode = (s.lane l).mode) (hp : (u.lane l).phase = (s.lane l).phase)
    {a : Ticket} {q q' : List Ticket} (hq : (s.lane l).queue = a :: q) (hq' : (u.lane l).queue = a :: q')
    (ha : u.record? a = s.record? a) (hw : ∀ e ∈ u.pool.waiting, e.lane = l → e ∈ s.pool.waiting) : LawfulBut .whole u := by
  refine whole_of_unjudged hu ⟨fun _ => by rw [hq']; nofun, fun hpass hidle => ?_⟩ fun e he hl => ?_
  · rw [hm] at hpass
    rw [hp] at hidle
    rw [(h.heads l hg).rests hpass hidle] at hq
    cases hq
  · have hneed := h.needsHead e (hw e he hl) (hl ▸ hg)
    have hhead : u.head? l = s.head? l := by
      unfold State.head?
      rw [hq, hq']
      exact ha
    rw [hhead, ← hl, hneed]

section
variable {s : State} (h : LawfulBut .whole s)
include h

theorem whole_cancelQueued {r : Record} (hr : s.record? r.ticket = some r) (hs : r.state = .queued) :
    LawfulBut .whole (s.cancelQueued r) := by
  have hcancelled : LawfulBut (.unjudged r.lane) (cancelledInQueue s r) :=
    unjudged_cancelled (unjudged_of_whole h r.lane) hr hs .byHost nofun
  have hlane := lane_cancelledInQueue s r
  rw [cancelQueued_eq hr]
  split_ifs with hhead hp
  · exact whole_headChanged hcancelled
  · exact whole_headChanged (lawfulBut_grantScan hcancelled (awake_of_at (atLane_unjudged _) (by rw [hlane]; exact hp)))
  · have hmem : r.ticket ∈ (s.lane r.lane).queue := h.queued _ r hr hs nofun
    cases hq : (s.lane r.lane).queue with
    | nil => rw [hq] at hmem; cases hmem
    | cons a q =>
      have hne : a ≠ r.ticket := fun he => hhead (by rw [hq, he]; rfl)
      refine whole_grantScan (whole_of_sameHead (q' := q.erase r.ticket) h ⟨⟨nofun, nofun⟩, nofun⟩ hcancelled (by rw [hlane])
        (by rw [hlane]) hq ?_ ?_ fun e he _ => he)
      · rw [hlane]
        change (s.lane r.lane).queue.erase r.ticket = _
        rw [hq, List.erase_cons_tail (by simpa using hne)]
      · exact record?_of_rewritten_ne (s := s) (u := cancelledInQueue s r) rfl (fun _ => rfl) hne

/-! ### CANCEL of an ACTIVE record (R38, R88) -/

theorem whole_markActive {r : Record} (hr : s.record? r.ticket = some r) (hs : r.state = .active) :
    LawfulBut .whole (s.markActive r) := by
  let f (x : Record) : Record := { x with cancelMark := true }
  have hmarked : LawfulBut .whole (s.onRecord r.ticket f) :=
    lawfulBut_onRecord h hr hs nofun nofun (fun _ => rfl) ⟨rfl, rfl, rfl, rfl, rfl, rfl, rfl, rfl, rfl, rfl, rfl, rfl, rfl⟩
  have hactive : (s.lane r.lane).active = some r.ticket := (h.carried _ r hr hs).2
  have hport := port_of_whole h r.lane
  -- between two attempts the lane is still, once its backoff is off
  have ends (hp : (s.lane r.lane).phase ≠ .waitSpace) (hx : Still { s.lane r.lane with backoffTimer := none }) :
      LawfulBut .whole ((s.onRecord r.ticket f).cancelActive r.lane r.ticket r.uncertain) := by
    have hopened := opened_withLane (x := s.lane r.lane) hmarked rfl rfl rfl Iff.rfl
    rw [show (s.onRecord r.ticket f).withLane r.lane (s.lane r.lane) = s.onRecord r.ticket f from
      withLane_lane (s.onRecord r.ticket f) r.lane] at hopened
    exact whole_cancelActive hopened (record?_onRecord_self hr f fun _ => rfl) hactive hp hx r.uncertain
  unfold State.markActive
  dsimp only
  split
  · rename_i hp
    have hx := hport.still (by rw [hp]; rfl)
    exact ends (by rw [hp]; nofun) ⟨hx.ack, rfl, hx.idle, hx.frame, hx.expected, hx.discarding, hx.breaks, hx.recovers⟩
  · rename_i hp
    exact ends (by rw [hp]; nofun) (still_of_port ((portLawful_backedOff hport hp).still rfl) rfl rfl rfl)
  · exact hmarked

theorem whole_runCancel (body : List Byte) : LawfulBut .whole (runCancel body s).2 := by
  unfold runCancel
  split <;> [exact h; skip]
  split <;> [exact h; skip]
  rename_i r hr
  obtain rfl := (record?_some hr).2
  split
  · rename_i hs; exact whole_cancelQueued h hr hs
  · rename_i hs; exact whole_markActive h hr hs
  · exact h
  · exact h
  · exact h

/-! ### RETIRE (R18, R43) -/

omit h in
theorem record?_retired (s : State) (r : Record) (a : Ticket) :
    (retired r s).record? a = if a = r.ticket then none else s.record? a := by
  change (s.table.records.filter fun x => x.ticket != r.ticket).find? (fun x => x.ticket == a) = _
  rw [List.find?_filter]
  split_ifs with ha
  · rw [List.find?_eq_none]
    simp [ha]
  · unfold State.record?
    congr 1
    funext x
    by_cases hx : x.ticket = a
    · simp [hx, ha]
    · simp [hx]

omit h in
theorem held_retired_le (s : State) (r : Record) (l : LaneId) : (retired r s).held l ≤ s.held l :=
  List.Sublist.sum_le_sum ((List.filter_sublist.filter _).map _) (by simp)

/-- A terminal record is in no queue, and no lane's active one, so nothing else speaks of it. -/
theorem whole_retired {r : Record} (hr : s.record? r.ticket = some r) (ht : r.state.terminal = true) :
    LawfulBut .whole (retired r s) := by
  have hother {a : Ticket} (ha : a ≠ r.ticket) : (retired r s).record? a = s.record? a := by
    rw [record?_retired, if_neg ha]
  have hsome {a : Ticket} {q : Record} (hq : (retired r s).record? a = some q) : a ≠ r.ticket ∧ s.record? a = some q := by
    rw [record?_retired] at hq
    split_ifs at hq with ha
    exact ⟨ha, hq⟩
  -- a record that is not terminal is another one, and stays
  have hstays {a : Ticket} {q : Record} (hq : s.record? a = some q) (hs : q.state.terminal = false) :
      (retired r s).record? a = some q := by
    refine (hother ?_).trans hq
    rintro rfl
    obtain rfl : q = r := Option.some.inj (hq.symm.trans hr)
    rw [ht] at hs
    cases hs
  have hqueue {l : LaneId} {a : Ticket} (ha : a ∈ (s.lane l).queue) : (retired r s).record? a = s.record? a := by
    obtain ⟨q, hq, -, hs⟩ := h.entries l a ha
    rw [hq, hstays hq (by rw [hs]; rfl)]
  refine ⟨accounted_retired h.accounted hr, fun a q hq => h.records a q (hsome hq).2, fun l => (held_retired_le s r l).trans (h.caps l),
    h.nodup, fun a q hq hs hg => h.queued a q (hsome hq).2 hs hg, nofun, fun l a ha => ?_, fun l => ?_, h.completionNodup.erase _,
    fun a => ?_, h.ports, h.heads, fun l a hg ha => ?_, fun a q hq hs => h.carried a q (hsome hq).2 hs, h.waitingNodup, h.waiting,
    h.needs, fun e he hg => ?_⟩
  · rw [hqueue ha]
    exact h.entries l a ha
  · refine List.Pairwise.imp_of_mem (fun {a b} ha hb hab => ?_) (h.urgentFirst l)
    rw [isUrgent_of_record? (congrArg _ (hqueue ha)), isUrgent_of_record? (congrArg _ (hqueue hb))]
    exact hab
  · change a ∈ s.table.completion.erase r.ticket ↔ _
    rw [h.completionNodup.mem_erase_iff, h.terminal a, record?_retired]
    split_ifs with ha <;> simp [ha]
  · obtain ⟨q, hq, hl, hs⟩ := h.active l a hg ha
    exact ⟨q, hstays hq (by rw [hs]; rfl), hl, hs⟩
  · rw [head?_of_same (s := s) (u := retired r s) rfl fun _ ha => hqueue ha]
    exact h.needsHead e he hg

theorem whole_runRetire (body : List Byte) : LawfulBut .whole (runRetire body s).2 := by
  unfold runRetire
  split <;> [exact h; skip]
  split <;> [exact h; skip]
  rename_i r hr
  obtain rfl := (record?_some hr).2
  split_ifs with ht
  · rcases retireRecord_cases s r with ⟨-, e⟩ | ⟨-, e⟩ <;> rw [e]
    · exact whole_retired h hr ht
    · exact whole_grantScan (whole_retired h hr ht)
  · exact h

end

end Sys2Proof.Proofs.OpenCancels
end

section
/-! PROOFS. SUBMIT keeps the laws of the part. -/

namespace Sys2Proof.Proofs.OpenSubmits

-- One theorem at a time: each elaboration thread takes 1 GiB of the check's memory limit.
set_option Elab.async false

open Sys2Proof Sys2Proof.Machine Sys2Proof.Proofs.Messages Sys2Proof.Proofs.LaneQueues Sys2Proof.Proofs.LaneModes
  Sys2Proof.Proofs.Blocks Sys2Proof.Proofs.HeadSelection Sys2Proof.Proofs.OpenLaws Sys2Proof.Proofs.OpenChanges
  Sys2Proof.Proofs.OpenLanes Sys2Proof.Proofs.OpenRecords Sys2Proof.Proofs.OpenMoves Sys2Proof.Proofs.OpenScan
  Sys2Proof.Proofs.OpenHeads Sys2Proof.Proofs.OpenCancels

/-! ### The arguments (R34, R189) -/

/-- A reply limit in range comes only with a wanted reply. -/
theorem legal_of_submitLegal {flags : Byte} {limit n : Nat} (h : submitLegal flags limit n = true) :
    (flags.getLsbD 4 = true → flags.getLsbD 2 = true ∧ limit ≤ 512) ∧ n ≤ 512 := by
  simp only [submitLegal, Bool.and_eq_true, Bool.or_eq_true, decide_eq_true_eq] at h
  obtain ⟨⟨-, hlimit⟩, hn⟩ := h
  refine ⟨fun h4 => hlimit.resolve_left fun hnot => ?_, hn⟩
  rw [h4] at hnot
  cases hnot

/-- What SUBMIT accepts is in the ranges of R34. -/
theorem legal_of_submitArgs {body : List Byte} {a : SubmitArgs} (h : submitArgs body = .ok a) : a.Legal := by
  unfold submitArgs at h
  split at h <;> [skip; cases h]
  rename_i lane flags rest
  dsimp only at h
  split at h <;> [skip; cases h]
  split at h <;> [skip; cases h]
  split at h <;> [skip; cases h]
  unfold argument at h
  split at h <;> [skip; cases h]
  rename_i hlegal
  obtain ⟨hlimit, hn⟩ := legal_of_submitLegal hlegal
  cases h
  refine ⟨fun hsome => ?_, ?_, hn⟩
  · dsimp only at hsome ⊢
    split at hsome
    · rename_i h4; exact (hlimit h4).1
    · cases hsome
  · dsimp only
    split
    · rename_i h4; exact (hlimit h4).2
    · exact Nat.zero_le _

/-! ### The new record (R5, R35) -/

section
variable {s : State} (h : LawfulBut .whole s) {a : SubmitArgs} {t : Ticket}

/-- The record that an accepted SUBMIT creates. -/
def submitted (s : State) (a : SubmitArgs) (t : Ticket) : Record :=
  newRecord a t (s.lane a.lane).config.defaultReplyLimit (s.pool.free.take (blockCount a.payload.length))

theorem record?_created (hnew : ∀ r ∈ s.table.records, r.ticket ≠ t) (b : Ticket) :
    (created a t s).record? b = if b = t then some (submitted s a t) else s.record? b := by
  change (s.table.records ++ [submitted s a t]).find? (fun x => x.ticket == b) = _
  rw [List.find?_append]
  change (s.record? b).or _ = _
  split_ifs with hb
  · subst hb
    have hnone : s.record? b = none := List.find?_eq_none.2 fun x hx => by simpa using hnew x hx
    rw [hnone]
    simp [submitted, newRecord]
  · have hne : ¬ (submitted s a t).ticket = b := fun he => hb he.symm
    simp [hne]

theorem held_created (s : State) (a : SubmitArgs) (t : Ticket) (l : LaneId) :
    (created a t s).held l = s.held l + if a.lane = l then (submitted s a t).blocks else 0 := by
  change (((s.table.records ++ [submitted s a t]).filter fun r => r.lane == l).map Record.blocks).sum = _
  rw [List.filter_append, List.map_append, List.sum_append]
  unfold State.held
  by_cases hl : a.lane = l
  · rw [if_pos hl, List.filter_cons_of_pos (by simpa [submitted, newRecord] using hl)]
    simp
  · rw [if_neg hl, List.filter_cons_of_neg (by simpa [submitted, newRecord] using hl)]
    simp

theorem lawful_submitted (ha : a.Legal) (hdefault : (s.lane a.lane).config.defaultReplyLimit ≤ 512)
    (hfree : blockCount a.payload.length ≤ s.freeCount) : RecordLawful (submitted s a t) := by
  obtain ⟨hwanted, hlimit, hpayload⟩ := ha
  refine ⟨⟨?_, rfl⟩, ?_, ?_, hpayload, rfl, rfl, rfl, fun h0 => absurd rfl h0, Nat.zero_le _, nofun, fun _ => rfl⟩
  · exact List.length_take.trans (Nat.min_eq_left hfree)
  · change (if a.replyWanted then some _ else none).isSome = a.replyWanted
    cases a.replyWanted <;> rfl
  · change (if a.replyWanted then some (a.replyLimit.getD _) else none).getD 0 ≤ 512
    split
    · cases hr : a.replyLimit with
      | none => exact hdefault
      | some n => rw [hr] at hlimit; exact hlimit
    · exact Nat.zero_le _

include h

/-- The new record is in no queue yet. -/
theorem loose_created (ha : a.Legal) (hdefault : (s.lane a.lane).config.defaultReplyLimit ≤ 512)
    (hroom : s.table.records.length < Config.maxRecords)
    (hcap : s.held a.lane + blockCount a.payload.length ≤ (s.lane a.lane).config.cap)
    (hfree : blockCount a.payload.length ≤ s.freeCount) (ht : s.table.issue = some t) :
    LawfulBut (.loose t) (created a t s) := by
  obtain ⟨⟨-, -, -, hcounter⟩, -⟩ := h.accounted
  have hnew := (issued_spec hcounter ht).2
  have hrec := record?_created (a := a) hnew
  have hself : (created a t s).record? t = some (submitted s a t) := by rw [hrec, if_pos rfl]
  have hother {b : Ticket} (hb : b ≠ t) : (created a t s).record? b = s.record? b := by rw [hrec, if_neg hb]
  have hnone : s.record? t = none := List.find?_eq_none.2 fun x hx => by simpa using hnew x hx
  have hlive {b : Ticket} {q : Record} (hq : s.record? b = some q) : (created a t s).record? b = some q := by
    refine (hother ?_).trans hq
    rintro rfl
    rw [hnone] at hq
    cases hq
  have hqueue {l : LaneId} {b : Ticket} (hb : b ∈ (s.lane l).queue) : (created a t s).record? b = s.record? b := by
    obtain ⟨q, hq, -⟩ := h.entries l b hb
    rw [hq, hlive hq]
  have hblocks : (submitted s a t).blocks = blockCount a.payload.length :=
    (Nat.add_zero _).trans (List.length_take.trans (Nat.min_eq_left hfree))
  refine ⟨accounted_created h.accounted a hroom ht, fun b q hq => ?_, fun l => ?_, h.nodup, fun b q hq hs hg => ?_,
    fun b hb l hmem => ?_, fun l b hb => ?_, fun l => ?_, h.completionNodup, fun b => ?_, fun l _ => h.ports l ⟨nofun, nofun⟩,
    fun l _ => h.heads l ⟨⟨nofun, nofun⟩, nofun⟩, fun l b _ hb => ?_, fun b q hq hs => ?_, h.waitingNodup, h.waiting, h.needs,
    fun e he _ => ?_⟩
  · by_cases hb : b = t
    · obtain rfl := Option.some.inj (hself.symm.trans (hb ▸ hq))
      exact lawful_submitted ha hdefault hfree
    · exact h.records b q (hother hb ▸ hq)
  · change (created a t s).held l ≤ (s.lane l).config.cap
    rw [held_created]
    by_cases hl : a.lane = l
    · subst hl
      rw [if_pos rfl, hblocks]
      exact hcap
    · rw [if_neg hl]
      exact h.caps l
  · have hb : b ≠ t := fun hb => hg (hb ▸ rfl)
    exact h.queued b q (hother hb ▸ hq) hs nofun
  · obtain rfl := Gap.loose.inj hb
    obtain ⟨q, hq, -⟩ := h.entries l t hmem
    rw [hnone] at hq
    cases hq
  · rw [hqueue hb]
    exact h.entries l b hb
  · refine List.Pairwise.imp_of_mem (fun {b c} hb hc hbc => ?_) (h.urgentFirst l)
    rw [isUrgent_of_record? (congrArg _ (hqueue hb)), isUrgent_of_record? (congrArg _ (hqueue hc))]
    exact hbc
  · refine (h.terminal b).trans ?_
    rw [hrec]
    split_ifs with hb
    · rw [hb, hnone]
      simp [submitted, newRecord, RecordState.terminal]
    · rfl
  · obtain ⟨q, hq, hl, hs⟩ := h.active l b nofun hb
    exact ⟨q, hlive hq, hl, hs⟩
  · rw [hrec] at hq
    split_ifs at hq
    · obtain rfl := Option.some.inj hq
      cases hs
    · exact ⟨nofun, (h.carried b q hq hs).2⟩
  · rw [head?_of_same (s := s) (u := created a t s) rfl fun _ hb => hqueue hb]
    exact h.needsHead e he ⟨⟨nofun, nofun⟩, nofun⟩

end

/-! ### The new record joins its queue (R36, R51) -/

/-- The scan grants heads of queues alone, so it leaves the record that is in none. -/
theorem record?_scanFrom_of_loose {t : Ticket} {s : State} (h : LawfulBut (.loose t) s) {es : List WaitEntry} (hes : Ahead s es) :
    (s.scanFrom es).record? t = s.record? t := by
  induction es generalizing s with
  | nil => rfl
  | cons e es ih =>
    have he := hes.listed e List.mem_cons_self
    have ha := awake_loose t s
    rcases scanFrom_cons_cases s e es with ⟨-, hs⟩ | ⟨hcap, hfree, hs⟩ | ⟨-, -, hs⟩ <;> rw [hs]
    · exact ih h hes.tail
    · refine (ih (lawfulBut_grant h ha he hfree hcap) (hes.grant h ha)).trans ?_
      obtain ⟨r, hr, -, hgrant⟩ := grant_eq h ha he
      have hne : t ≠ r.ticket := fun ht => h.absent t rfl _ (ht ▸ (queued_of_head? h hr).2.1)
      rw [hgrant]
      exact record?_of_rewritten_ne (s := s) (t := r.ticket) (f := fun x =>
        { x with state := .active, misses := 0, busies := 0, uncertain := false,
                 replyChain := x.replyChain ++ s.pool.free.take r.replyNeed }) rfl (fun _ => rfl) hne

/-- A new ticket comes to the head of its queue, or leaves the head where it is. -/
theorem head_withNew (s : State) (l : LaneId) (t : Ticket) (urgent : Bool) :
    (withNew s l t urgent).head? = some t ∨
      ∃ a q q', (s.lane l).queue = a :: q ∧ withNew s l t urgent = a :: q' := by
  unfold withNew State.afterUrgent
  cases hq : (s.lane l).queue with
  | nil => left; split <;> rfl
  | cons a q =>
    split
    · by_cases ha : s.isUrgent a = true
      · exact .inr ⟨a, q, q.takeWhile s.isUrgent ++ t :: q.dropWhile s.isUrgent, rfl, by
          rw [List.takeWhile_cons_of_pos ha, List.dropWhile_cons_of_pos ha]; rfl⟩
      · left
        rw [List.takeWhile_cons_of_neg ha]
        rfl
    · exact .inr ⟨a, q, q ++ [t], rfl, rfl⟩

theorem whole_enqueue {s : State} {a : SubmitArgs} {t : Ticket} (h : LawfulBut (.loose t) s) {r : Record}
    (hr : s.record? t = some r) (hs : r.state = .queued) (hl : r.lane = a.lane) (hu : r.urgent = a.urgent) :
    LawfulBut .whole (s.enqueue a t) := by
  have hinserted : LawfulBut (.unjudged a.lane) (s.insertNew a.lane t a.urgent) := by
    rw [← hl, ← hu]
    exact unjudged_inserted h hr hs
  have hlane : (s.insertNew a.lane t a.urgent).lane a.lane = { s.lane a.lane with queue := withNew s a.lane t a.urgent } :=
    lane_withLane_self s _ _
  unfold State.enqueue
  dsimp only
  split_ifs with hhead
  · exact whole_headChanged hinserted
  · rw [hlane] at hhead
    obtain ⟨b, q, q', hq, hq'⟩ := (head_withNew s a.lane t a.urgent).resolve_left hhead
    exact whole_of_sameHead h ⟨⟨nofun, nofun⟩, nofun⟩ hinserted (by rw [hlane]) (by rw [hlane]) hq (by rw [hlane]; exact hq') rfl
      fun e he _ => he

theorem whole_runSubmit {s : State} (h : LawfulBut .whole s) (hgen : GeneratorsLawful s) (body : List Byte) :
    LawfulBut .whole (runSubmit body s).2 := by
  unfold runSubmit
  split <;> [exact h; skip]
  rename_i a hargs
  split_ifs with hfull hcap hpool <;> [exact h; exact h; exact h; skip]
  split <;> [exact h; skip]
  rename_i t ht
  obtain ⟨⟨-, -, -, hcounter⟩, -⟩ := h.accounted
  have hdefault : (s.lane a.lane).config.defaultReplyLimit ≤ 512 := by
    have := (hgen a.lane).1
    simp only [LaneConfig.legal, Bool.and_eq_true, decide_eq_true_eq] at this
    omega
  have hloose := loose_created h (legal_of_submitArgs hargs) hdefault (Nat.lt_of_not_le hfull) (Nat.le_of_not_lt hcap)
    ((Nat.le_add_left _ _).trans (Nat.le_of_not_lt hpool)) ht
  have hrec : (s.createRecord a t).record? t = some (submitted s a t) := by
    rw [createRecord_eq]
    refine (record?_scanFrom_of_loose hloose (ahead_waiting hloose)).trans ?_
    rw [record?_created (issued_spec hcounter ht).2, if_pos rfl]
  exact whole_enqueue (lawfulBut_grantScan hloose (awake_loose t _)) hrec rfl rfl rfl

end Sys2Proof.Proofs.OpenSubmits
end

section
/-! PROOFS. The advance of part time, the control link and the resets keep the laws of the part; so does every step, and the
reset state has them all. -/

namespace Sys2Proof.Proofs.OpenSteps

-- One theorem at a time: each elaboration thread takes 1 GiB of the check's memory limit.
set_option Elab.async false

open Sys2Proof Sys2Proof.Machine Sys2Proof.Proofs.Messages Sys2Proof.Proofs.LaneQueues Sys2Proof.Proofs.LaneModes
  Sys2Proof.Proofs.Blocks Sys2Proof.Proofs.HeadSelection Sys2Proof.Proofs.OpenLaws Sys2Proof.Proofs.OpenChanges
  Sys2Proof.Proofs.OpenLanes Sys2Proof.Proofs.OpenRecords Sys2Proof.Proofs.OpenMoves Sys2Proof.Proofs.OpenScan
  Sys2Proof.Proofs.OpenHeads Sys2Proof.Proofs.OpenEvents Sys2Proof.Proofs.OpenFrames Sys2Proof.Proofs.OpenRequests
  Sys2Proof.Proofs.OpenCancels Sys2Proof.Proofs.OpenSubmits

/-! ### The advance of part time (R99, R101, R104, R116) -/

theorem isSome_countDown (timer : Option Nat) : (countDown timer).isSome = timer.isSome := by cases timer <;> rfl

theorem countDown_eq_none (timer : Option Nat) : countDown timer = none ↔ timer = none := by cases timer <;> simp [countDown]

theorem frameLawful_measure (d : DrxSample) (rx : Receiver) : (rx.measure d).frameLawful = rx.frameLawful := by cases rx <;> rfl

theorem isExpected_measure (d : DrxSample) (rx : Receiver) : (rx.measure d).isExpected = rx.isExpected := by cases rx <;> rfl

theorem measure_eq_discarding (d : DrxSample) (rx : Receiver) : rx.measure d = .discarding ↔ rx = .discarding := by
  cases rx <;> simp [Receiver.measure]

/-- An advance starts no timer and stops none. -/
theorem portLawful_advance {x : Lane} (h : PortLawful x) (d : DrxSample) : PortLawful (x.advance d) := by
  refine ⟨h.active, h.halt, h.waits, fun ha => h.ack ?_, ?_, h.sending, ?_, fun he => ?_, fun hp => ?_, ?_, ?_, ?_, ?_⟩
  · exact (isSome_countDown _).symm.trans ha
  · exact (isSome_countDown _).trans h.backoff
  · exact (frameLawful_measure d _).trans h.frame
  · obtain ⟨hp, ha⟩ := h.expected ((isExpected_measure d _).symm.trans he)
    exact ⟨hp, (countDown_eq_none _).2 ha⟩
  · exact (h.awaits hp).imp (isSome_countDown _).trans (isExpected_measure d _).trans
  · exact (measure_eq_discarding d _).trans h.discarding
  · exact h.breaking.trans (by rw [← isSome_countDown]; rfl)
  · refine Eq.trans ?_ h.timers
    exact congrArg₂ or (isSome_countDown _) (isSome_countDown _)
  · rintro ⟨hb, hr⟩
    exact h.oneTimer ⟨(isSome_countDown _).symm.trans hb, (isSome_countDown _).symm.trans hr⟩

section
variable {s : State} (h : LawfulBut .whole s)
include h

/-- Every lane has been rewritten but for its queue, its active ticket, its phase and its cap. -/
theorem whole_advance (p : TickSample) : LawfulBut .whole (s.advance p) := by
  have hlane := lane_advance s p
  have hqueue (l : LaneId) : ((s.advance p).lane l).queue = (s.lane l).queue := by rw [hlane]; rfl
  refine ⟨accounted_of_same h.accounted (accounts_advance s p), h.records, fun l => by rw [hlane]; exact h.caps l,
    fun l => by rw [hqueue]; exact h.nodup l, fun t r hr hs hg => by rw [hqueue]; exact h.queued t r hr hs hg, nofun,
    fun l t ht => h.entries l t (hqueue l ▸ ht), fun l => by rw [hqueue]; exact h.urgentFirst l, h.completionNodup, h.terminal,
    fun l hg => ?_, fun l hg => ?_, fun l t hg ha => ?_, fun t r hr hs => ?_, h.waitingNodup, fun l => ?_, h.needs,
    fun e he hg => ?_⟩
  · rw [hlane]
    exact portLawful_advance (h.ports l hg) _
  · rw [hlane]
    obtain ⟨hwaits, hrests⟩ := h.heads l hg
    exact ⟨hwaits, hrests⟩
  · rw [hlane] at ha
    exact h.active l t hg ha
  · rw [hlane]
    exact h.carried t r hr hs
  · rw [hlane]
    exact h.waiting l
  · rw [head?_of_same (s := s) (u := s.advance p) (hqueue _) fun _ _ => rfl]
    exact h.needsHead e he hg

/-! ### The control link (R162 to R179) -/

theorem whole_controlStartByte : LawfulBut .whole s.controlStartByte := by
  unfold State.controlStartByte
  split <;> [exact lawfulBut_onLink h _; exact h]

theorem whole_controlHeader (lenHi lenLo : Byte) : LawfulBut .whole (s.controlHeader lenHi lenLo) := by
  unfold State.controlHeader
  split_ifs
  · exact lawfulBut_of_same h rfl rfl rfl
  · exact lawfulBut_of_same h rfl rfl rfl
  · exact h

theorem whole_controlFrameEnd (chars : List Byte) : LawfulBut .whole (s.controlFrameEnd chars) := by
  unfold State.controlFrameEnd
  split <;> [skip; exact h]
  split <;> [skip; exact h]
  dsimp only
  split <;> [skip; exact lawfulBut_of_same h rfl rfl rfl]
  split <;> [skip; exact h]
  split <;> [skip; exact lawfulBut_of_same h rfl rfl rfl]
  unfold State.goodRequest
  dsimp only
  split
  · exact lawfulBut_of_same h rfl rfl rfl
  · exact lawfulBut_of_same h rfl rfl rfl

theorem whole_controlGap : LawfulBut .whole s.controlGap := by
  unfold State.controlGap
  split <;> [exact lawfulBut_of_same h rfl rfl rfl; exact h]

theorem whole_linkReset : LawfulBut .whole s.linkReset := by
  unfold State.linkReset
  split <;> [exact lawfulBut_of_same h rfl rfl rfl; exact h]

theorem whole_seeHrx (x : HrxSample) : LawfulBut .whole (s.seeHrx x) := by
  unfold State.seeHrx
  split <;> [exact whole_linkReset h; exact h]

theorem whole_responseStart : LawfulBut .whole s.responseStart := by
  unfold State.responseStart
  split <;> [exact h; skip]
  split <;> [exact lawfulBut_of_same h rfl rfl rfl; exact h]

theorem whole_noticeStart : LawfulBut .whole s.noticeStart := by
  unfold State.noticeStart
  split <;> [exact h; skip]
  split <;> [exact lawfulBut_of_same h rfl rfl rfl; exact h]

/-! ### The resets (R158, R180, R181) -/

omit h in
theorem portLawful_reset : PortLawful Lane.reset := by
  refine Still.portLawful ⟨rfl, rfl, rfl, rfl, rfl, nofun, rfl, rfl⟩ rfl rfl (fun _ => rfl) ?_
  rintro (hp | hp) <;> cases hp

omit h in
/-- After a reset no record is live and no lane waits. -/
theorem whole_afterReset (c : ResetCause) (straps : BitVec 2) (low : Bool) (pending : List Instr) :
    LawfulBut .whole (State.afterReset c straps low pending) := by
  have hlane := Resets.lane_afterReset c straps low pending
  have hnone (t : Ticket) : (State.afterReset c straps low pending).record? t = none := rfl
  have hheld (l : LaneId) : (State.afterReset c straps low pending).held l = 0 := rfl
  have hrecord {t : Ticket} {r : Record} {p : Prop} (hr : (State.afterReset c straps low pending).record? t = some r) : p := by
    rw [hnone] at hr
    cases hr
  refine ⟨accounted_afterReset c straps low pending, fun _ _ => hrecord, fun l => by rw [hheld]; exact Nat.zero_le _, fun l => by rw [hlane]; exact List.nodup_nil,
    fun _ _ => hrecord, nofun, fun l t ht => ?_, fun l => by rw [hlane]; exact List.Pairwise.nil, List.nodup_nil, fun t => ?_,
    fun l _ => ?_, fun l _ => ?_, fun l t _ ha => ?_, fun _ _ => hrecord, List.nodup_nil, fun l => ?_, nofun, nofun⟩
  · rw [hlane] at ht
    cases ht
  · exact iff_of_false nofun fun ⟨_, hr, _⟩ => hrecord hr
  · rw [hlane]
    exact portLawful_reset
  · rw [hlane]
    exact headLawful_of_rest rfl nofun
  · rw [hlane] at ha
    cases ha
  · rw [hlane]
    exact iff_of_false nofun nofun

theorem whole_linkBreak : LawfulBut .whole s.linkBreak := by
  rcases linkBreak_cases s with ⟨-, e⟩ | ⟨-, -, e⟩ | ⟨-, -, e⟩ <;> rw [e]
  · exact h
  · exact whole_afterReset _ _ _ _
  · exact lawfulBut_of_same h rfl rfl rfl

theorem whole_controlFrameSent : LawfulBut .whole s.controlFrameSent := by
  rcases controlFrameSent_cases s with ⟨-, e⟩ | ⟨-, -, e⟩ | ⟨-, e⟩ <;> rw [e]
  · exact h
  · exact whole_afterReset _ _ _ _
  · exact lawfulBut_of_same h rfl rfl rfl

/-! ### The timed steps that are due (R105) -/

theorem whole_settleLane (l : LaneId) : LawfulBut .whole (s.settleLane l) :=
  whole_releaseReached (whole_dropResetEnd (whole_dropBreakEnd (whole_backoffExpiry (whole_ackExpiry (whole_creditEarned h
    l) l) l) l) l) l

theorem whole_settle (p : TickSample) : LawfulBut .whole (s.settle p) := by
  have hlanes := whole_foldl (fun _ l hu => whole_settleLane hu l) allLanes h
  have hlink := whole_seeHrx (whole_linkBreak (whole_controlGap (whole_quietExpiry hlanes))) p.hrx
  exact whole_foldl (fun _ _ hu => whole_startFrame hu _) _ (whole_foldl (fun _ _ hu => whole_gapCut hu _ _) _ hlink)

end

/-! ### Every command (R167) -/

section
variable {s : State} (h : LawfulBut .whole s)
include h

/-- A request command keeps the laws when its meaning on every body does. -/
theorem whole_takeRequest (hgen : GeneratorsLawful s) {row : RequestRow} {run : List Byte → State → Reply × State}
    (hrun : ∀ body u, LawfulBut .whole u → GeneratorsLawful u → LawfulBut .whole (run body u).2) :
    LawfulBut .whole (s.takeRequest row run) := by
  rcases takeRequest_cases s row run with e | ⟨q, rest, -, -, e⟩ <;> rw [e]
  · exact h
  · exact lawfulBut_of_same (hrun q.body (s.taken rest) (lawfulBut_of_same h rfl rfl rfl) hgen) rfl rfl rfl

theorem whole_runIdentify (body : List Byte) : LawfulBut .whole (runIdentify body s).2 := by
  unfold runIdentify
  split <;> exact h

theorem whole_runPartStatus (body : List Byte) : LawfulBut .whole (runPartStatus body s).2 := by
  unfold runPartStatus
  split <;> [exact h; skip]
  dsimp only
  split <;> [exact lawfulBut_onLink h _; exact h]

theorem whole_runPartConfig (body : List Byte) : LawfulBut .whole (runPartConfig body s).2 := by
  unfold runPartConfig
  split <;> [exact h; exact lawfulBut_of_same h rfl rfl rfl]

theorem whole_runRestart (body : List Byte) : LawfulBut .whole (runRestart body s).2 := by
  unfold runRestart
  split <;> [exact h; exact lawfulBut_of_same h rfl rfl rfl]

theorem whole_runQuery (body : List Byte) : LawfulBut .whole (runQuery body s).2 := by
  unfold runQuery
  split <;> [exact h; skip]
  split <;> exact h

theorem whole_runReplyRead (body : List Byte) : LawfulBut .whole (runReplyRead body s).2 := by
  unfold runReplyRead
  split <;> [exact h; skip]
  split <;> [exact h; skip]
  split_ifs <;> exact h

theorem whole_runCollect (body : List Byte) : LawfulBut .whole (runCollect body s).2 := by
  unfold runCollect
  split <;> exact h

/-- Every command completes in a state that obeys the laws: one case for each row. -/
theorem whole_exec (hgen : GeneratorsLawful s) (i : Instr) : ∃ t, exec i s = .next t ∧ LawfulBut .whole t := by
  have request {row : RequestRow} {run : List Byte → State → Reply × State}
      (hrun : ∀ body u, LawfulBut .whole u → GeneratorsLawful u → LawfulBut .whole (run body u).2) :
      LawfulBut .whole (s.takeRequest row run) := whole_takeRequest h hgen hrun
  cases i with
  | identify => exact ⟨_, rfl, request fun body _ hu _ => whole_runIdentify hu body⟩
  | partStatus => exact ⟨_, rfl, request fun body _ hu _ => whole_runPartStatus hu body⟩
  | partConfig => exact ⟨_, rfl, request fun body _ hu _ => whole_runPartConfig hu body⟩
  | restart => exact ⟨_, rfl, request fun body _ hu _ => whole_runRestart hu body⟩
  | laneConfig => exact ⟨_, rfl, request fun body _ hu _ => whole_runLaneConfig hu body⟩
  | laneModeHold => exact ⟨_, rfl, request fun body _ hu _ => whole_runLaneModeHold hu body⟩
  | laneModePass => exact ⟨_, rfl, request fun body _ hu _ => whole_runLaneModePass hu body⟩
  | laneModeHalt => exact ⟨_, rfl, request fun body _ hu _ => whole_runLaneModeHalt hu body⟩
  | laneStatus => exact ⟨_, rfl, request fun body _ hu _ => whole_runLaneStatus hu body⟩
  | laneFlush => exact ⟨_, rfl, request fun body _ hu _ => whole_runLaneFlush hu body⟩
  | laneReseqForce => exact ⟨_, rfl, request fun body _ hu _ => whole_runLaneReseqForce hu body⟩
  | laneReseqMark => exact ⟨_, rfl, request fun body _ hu _ => whole_runLaneReseqMark hu body⟩
  | dropReset => exact ⟨_, rfl, request fun body _ hu _ => whole_runDropReset hu body⟩
  | submit => exact ⟨_, rfl, request fun body _ hu hg => whole_runSubmit hu hg body⟩
  | cancel => exact ⟨_, rfl, request fun body _ hu _ => whole_runCancel hu body⟩
  | query => exact ⟨_, rfl, request fun body _ hu _ => whole_runQuery hu body⟩
  | replyRead => exact ⟨_, rfl, request fun body _ hu _ => whole_runReplyRead hu body⟩
  | collect => exact ⟨_, rfl, request fun body _ hu _ => whole_runCollect hu body⟩
  | retire => exact ⟨_, rfl, request fun body _ hu _ => whole_runRetire hu body⟩
  | reportTake => exact ⟨_, rfl, request fun body _ hu _ => whole_runReportTake hu body⟩
  | unknownRequest => exact ⟨_, rfl, request fun _ _ hu _ => hu⟩
  | controlHeaderTaken lenHi lenLo => exact ⟨_, rfl, whole_controlHeader h lenHi lenLo⟩
  | controlFrameEnd chars => exact ⟨_, rfl, whole_controlFrameEnd h chars⟩
  | controlFrameGap => exact ⟨_, rfl, whole_controlGap h⟩
  | linkBreak => exact ⟨_, rfl, whole_linkBreak h⟩
  | linkReset => exact ⟨_, rfl, whole_linkReset h⟩
  | hostQuietExpiry => exact ⟨_, rfl, whole_quietExpiry h⟩
  | responseStart => exact ⟨_, rfl, whole_responseStart h⟩
  | noticeStart => exact ⟨_, rfl, whole_noticeStart h⟩
  | controlFrameSent => exact ⟨_, rfl, whole_controlFrameSent h⟩
  | restartReset pins =>
    refine ⟨_, rfl, ?_⟩
    split_ifs
    · exact whole_afterReset _ _ _ _
    · exact h
  | pinReset low pins =>
    refine ⟨_, rfl, ?_⟩
    unfold State.pinReset
    split_ifs
    · exact lawfulBut_of_same (whole_afterReset .resetPin s.link.speed false s.pending) rfl rfl rfl
    · exact whole_afterReset _ _ _ _
  | tick pins =>
    refine ⟨_, rfl, ?_⟩
    split_ifs
    · exact h
    · exact whole_advance (whole_settle h pins) pins
  | slotCreditEarned lane => exact ⟨_, rfl, whole_creditEarned h lane⟩
  | releaseTimeReached lane => exact ⟨_, rfl, whole_releaseReached h lane⟩
  | transmissionStart lane => exact ⟨_, rfl, whole_startFrame h lane⟩
  | dropFrameSent lane => exact ⟨_, rfl, whole_frameSent h lane⟩
  | dropHeaderTaken lane control lenHi lenLo => exact ⟨_, rfl, whole_dropHeader h lane control lenHi lenLo⟩
  | dropGapCut lane cut => exact ⟨_, rfl, whole_gapCut h lane cut⟩
  | dropFrameEnd lane chars => exact ⟨_, rfl, whole_dropFrameEnd h lane chars⟩
  | ackTimeout lane => exact ⟨_, rfl, whole_ackExpiry h lane⟩
  | backoffExpiry lane => exact ⟨_, rfl, whole_backoffExpiry h lane⟩
  | dropResetBreakEnd lane => exact ⟨_, rfl, whole_dropBreakEnd h lane⟩
  | dropResetEnd lane => exact ⟨_, rfl, whole_dropResetEnd h lane⟩
  | dropStartByte lane => exact ⟨_, rfl, whole_dropStartByte h lane⟩
  | controlStartByte => exact ⟨_, rfl, whole_controlStartByte h⟩
  | dropFramingFault lane taken => exact ⟨_, rfl, whole_cutFrame h lane taken⟩

end

/-- Settles O60: an idle step leaves the state, and every command completes in a lawful one. -/
theorem everyStepKeepsTheLawsOfThePart : Obligations.EveryStepKeepsTheLawsOfThePart := by
  intro s t h hstep
  unfold step at hstep
  split at hstep
  · exact Host.Outcome.next.inj hstep ▸ h
  · rename_i c rest _
    obtain ⟨hlaws, hgen⟩ := (lawful_iff s).1 h
    obtain ⟨u, hu, hgen'⟩ := Generators.generatorsLawful_exec (s := { s with pending := rest }) hgen c
    obtain ⟨v, hv, hlaws'⟩ := whole_exec (s := { s with pending := rest }) (lawfulBut_of_same hlaws rfl rfl rfl) hgen c
    obtain rfl : u = t := Host.Outcome.next.inj (hu.symm.trans hstep)
    obtain rfl : v = u := Host.Outcome.next.inj (hv.symm.trans hstep)
    exact (lawful_iff v).2 ⟨hlaws', hgen'⟩

/-- Settles O6: after a reset the table, the waiting list and the link queues are empty, and STARTED is the one notice. -/
theorem resetStateIsSafe : Obligations.ResetStateIsSafe := by
  obtain ⟨hqueues, hholdings⟩ := Stores.bounded_afterReset .resetPin 0 false []
  refine ⟨(lawful_iff _).2 ⟨whole_afterReset .resetPin 0 false [], Generators.generatorsLawful_afterReset .resetPin 0 false []⟩,
    hqueues, hholdings, List.nodup_singleton _, fun n hn => ?_⟩
  obtain rfl : n = NoticeEntry.started .resetPin := List.mem_singleton.1 hn
  exact ⟨by decide, by decide, rfl, rfl⟩

end Sys2Proof.Proofs.OpenSteps
end
